-- ==== Sys2Proof/Word.lean ====
section
/-!
DEFINITION. The two word types of the core (spec/00_scope.md R7).
The helpers that split, join and extend words stand in Decode.lean.
-/

namespace Sys2Proof

/-- A byte: the data path, the registers A, X, Y, SP and P, and one memory access (R7). -/
abbrev Byte := BitVec 8

/-- A 16-bit word: the program counter and every address (R7). -/
abbrev Word := BitVec 16

end Sys2Proof
end

