-- ==== Sys2Proof/Config.lean ====
section
/-!
DEFINITION. The named parameters of spec/00_scope.md R8, each at the value the spec decides
(spec/92_eei_decisions.md; log 11).
`BUS` is the flat memory of State.lean. `ILLEGAL_OPCODE_POLICY` and `TRIGGER_WHEN_BUSY` have
the one value `refuse`, so they are not parameters here: the refusals stand in the meanings.
The spec leaves no result open, so there is no free value.
-/

namespace Sys2Proof.Config

/-- `STACK_PAGE_BASE` (R8, D3). -/
def stackPageBase : Word := 0x0100#16

/-- `NMI_VECTOR` (R8, D2). -/
def nmiVector : Word := 0xFFFA#16

/-- `RESET_VECTOR` (R8, D2). -/
def resetVector : Word := 0xFFFC#16

/-- `IRQ_VECTOR`, also BRK's (R8, D2). -/
def irqVector : Word := 0xFFFE#16

/-- `RESET_CYCLES` (R8, D13). -/
def resetCycles : Nat := 7

/-- `IRQ_CYCLES` (R8, D13). -/
def irqCycles : Nat := 7

/-- `NMI_CYCLES` (R8, D13). -/
def nmiCycles : Nat := 7

/-- `ILLEGAL_BASE_CYCLES`: the cost in an undocumented descriptor, never observable (R8, D5, U13). -/
def illegalBaseCycles : Nat := 2

/-- `DECIMAL_MODE` (R8, R141, D6): false. With true, ADC and SBC refuse when D = 1. -/
def decimalMode : Bool := false

/-- `JMP_INDIRECT_PAGE_WRAP` (R8, R105, D12). -/
def jmpIndirectPageWrap : Bool := true

/-- What a byte of memory that nothing has written reads as.
DESIGN CHOICE (log 1, unsafe): R70 gives no power-on value; 0x00 is D34's value for the vectors. -/
def unlistedByte : Byte := 0x00#8

end Sys2Proof.Config
end

