-- ==== Sys2Proof/Syntax.lean ====
section
/-!
DEFINITION. The instructions: one constructor per documented row of spec/opcode_table.json (151
rows, spec/30_encoding.md R85), with the row's operand as a field: a byte for the formats of two
bytes, a 16-bit word for those of three (R80, R81). The 105 rows `???` share one descriptor and one
rule (R86, R222), so they are one constructor that carries the opcode byte (log 13).
-/

namespace Sys2Proof

/-- An instruction: opcode, mode and operand of one row of the opcode table (R80, R85, R86). -/
inductive Instr where
  /-- 0xA1 `LDA ($nn,X)`, IZX (R120). -/
  | ldaIzx (b : Byte)
  /-- 0xA5 `LDA $nn`, ZP0 (R120). -/
  | ldaZp0 (b : Byte)
  /-- 0xA9 `LDA #$nn`, IMM (R120). -/
  | ldaImm (b : Byte)
  /-- 0xAD `LDA $nnnn`, ABS (R120). -/
  | ldaAbs (w : Word)
  /-- 0xB1 `LDA ($nn),Y`, IZY (R120). -/
  | ldaIzy (b : Byte)
  /-- 0xB5 `LDA $nn,X`, ZPX (R120). -/
  | ldaZpx (b : Byte)
  /-- 0xB9 `LDA $nnnn,Y`, ABY (R120). -/
  | ldaAby (w : Word)
  /-- 0xBD `LDA $nnnn,X`, ABX (R120). -/
  | ldaAbx (w : Word)
  /-- 0xA2 `LDX #$nn`, IMM (R121). -/
  | ldxImm (b : Byte)
  /-- 0xA6 `LDX $nn`, ZP0 (R121). -/
  | ldxZp0 (b : Byte)
  /-- 0xAE `LDX $nnnn`, ABS (R121). -/
  | ldxAbs (w : Word)
  /-- 0xB6 `LDX $nn,Y`, ZPY (R121). -/
  | ldxZpy (b : Byte)
  /-- 0xBE `LDX $nnnn,Y`, ABY (R121). -/
  | ldxAby (w : Word)
  /-- 0xA0 `LDY #$nn`, IMM (R122). -/
  | ldyImm (b : Byte)
  /-- 0xA4 `LDY $nn`, ZP0 (R122). -/
  | ldyZp0 (b : Byte)
  /-- 0xAC `LDY $nnnn`, ABS (R122). -/
  | ldyAbs (w : Word)
  /-- 0xB4 `LDY $nn,X`, ZPX (R122). -/
  | ldyZpx (b : Byte)
  /-- 0xBC `LDY $nnnn,X`, ABX (R122). -/
  | ldyAbx (w : Word)
  /-- 0x81 `STA ($nn,X)`, IZX (R123). -/
  | staIzx (b : Byte)
  /-- 0x85 `STA $nn`, ZP0 (R123). -/
  | staZp0 (b : Byte)
  /-- 0x8D `STA $nnnn`, ABS (R123). -/
  | staAbs (w : Word)
  /-- 0x91 `STA ($nn),Y`, IZY (R123). -/
  | staIzy (b : Byte)
  /-- 0x95 `STA $nn,X`, ZPX (R123). -/
  | staZpx (b : Byte)
  /-- 0x99 `STA $nnnn,Y`, ABY (R123). -/
  | staAby (w : Word)
  /-- 0x9D `STA $nnnn,X`, ABX (R123). -/
  | staAbx (w : Word)
  /-- 0x86 `STX $nn`, ZP0 (R124). -/
  | stxZp0 (b : Byte)
  /-- 0x8E `STX $nnnn`, ABS (R124). -/
  | stxAbs (w : Word)
  /-- 0x96 `STX $nn,Y`, ZPY (R124). -/
  | stxZpy (b : Byte)
  /-- 0x84 `STY $nn`, ZP0 (R125). -/
  | styZp0 (b : Byte)
  /-- 0x8C `STY $nnnn`, ABS (R125). -/
  | styAbs (w : Word)
  /-- 0x94 `STY $nn,X`, ZPX (R125). -/
  | styZpx (b : Byte)
  /-- 0xAA `TAX`, IMP (R126). -/
  | tax
  /-- 0xA8 `TAY`, IMP (R127). -/
  | tay
  /-- 0x8A `TXA`, IMP (R128). -/
  | txa
  /-- 0x98 `TYA`, IMP (R129). -/
  | tya
  /-- 0x61 `ADC ($nn,X)`, IZX (R142). -/
  | adcIzx (b : Byte)
  /-- 0x65 `ADC $nn`, ZP0 (R142). -/
  | adcZp0 (b : Byte)
  /-- 0x69 `ADC #$nn`, IMM (R142). -/
  | adcImm (b : Byte)
  /-- 0x6D `ADC $nnnn`, ABS (R142). -/
  | adcAbs (w : Word)
  /-- 0x71 `ADC ($nn),Y`, IZY (R142). -/
  | adcIzy (b : Byte)
  /-- 0x75 `ADC $nn,X`, ZPX (R142). -/
  | adcZpx (b : Byte)
  /-- 0x79 `ADC $nnnn,Y`, ABY (R142). -/
  | adcAby (w : Word)
  /-- 0x7D `ADC $nnnn,X`, ABX (R142). -/
  | adcAbx (w : Word)
  /-- 0xE1 `SBC ($nn,X)`, IZX (R143). -/
  | sbcIzx (b : Byte)
  /-- 0xE5 `SBC $nn`, ZP0 (R143). -/
  | sbcZp0 (b : Byte)
  /-- 0xE9 `SBC #$nn`, IMM (R143). -/
  | sbcImm (b : Byte)
  /-- 0xED `SBC $nnnn`, ABS (R143). -/
  | sbcAbs (w : Word)
  /-- 0xF1 `SBC ($nn),Y`, IZY (R143). -/
  | sbcIzy (b : Byte)
  /-- 0xF5 `SBC $nn,X`, ZPX (R143). -/
  | sbcZpx (b : Byte)
  /-- 0xF9 `SBC $nnnn,Y`, ABY (R143). -/
  | sbcAby (w : Word)
  /-- 0xFD `SBC $nnnn,X`, ABX (R143). -/
  | sbcAbx (w : Word)
  /-- 0x21 `AND ($nn,X)`, IZX (R144). -/
  | andIzx (b : Byte)
  /-- 0x25 `AND $nn`, ZP0 (R144). -/
  | andZp0 (b : Byte)
  /-- 0x29 `AND #$nn`, IMM (R144). -/
  | andImm (b : Byte)
  /-- 0x2D `AND $nnnn`, ABS (R144). -/
  | andAbs (w : Word)
  /-- 0x31 `AND ($nn),Y`, IZY (R144). -/
  | andIzy (b : Byte)
  /-- 0x35 `AND $nn,X`, ZPX (R144). -/
  | andZpx (b : Byte)
  /-- 0x39 `AND $nnnn,Y`, ABY (R144). -/
  | andAby (w : Word)
  /-- 0x3D `AND $nnnn,X`, ABX (R144). -/
  | andAbx (w : Word)
  /-- 0x01 `ORA ($nn,X)`, IZX (R145). -/
  | oraIzx (b : Byte)
  /-- 0x05 `ORA $nn`, ZP0 (R145). -/
  | oraZp0 (b : Byte)
  /-- 0x09 `ORA #$nn`, IMM (R145). -/
  | oraImm (b : Byte)
  /-- 0x0D `ORA $nnnn`, ABS (R145). -/
  | oraAbs (w : Word)
  /-- 0x11 `ORA ($nn),Y`, IZY (R145). -/
  | oraIzy (b : Byte)
  /-- 0x15 `ORA $nn,X`, ZPX (R145). -/
  | oraZpx (b : Byte)
  /-- 0x19 `ORA $nnnn,Y`, ABY (R145). -/
  | oraAby (w : Word)
  /-- 0x1D `ORA $nnnn,X`, ABX (R145). -/
  | oraAbx (w : Word)
  /-- 0x41 `EOR ($nn,X)`, IZX (R146). -/
  | eorIzx (b : Byte)
  /-- 0x45 `EOR $nn`, ZP0 (R146). -/
  | eorZp0 (b : Byte)
  /-- 0x49 `EOR #$nn`, IMM (R146). -/
  | eorImm (b : Byte)
  /-- 0x4D `EOR $nnnn`, ABS (R146). -/
  | eorAbs (w : Word)
  /-- 0x51 `EOR ($nn),Y`, IZY (R146). -/
  | eorIzy (b : Byte)
  /-- 0x55 `EOR $nn,X`, ZPX (R146). -/
  | eorZpx (b : Byte)
  /-- 0x59 `EOR $nnnn,Y`, ABY (R146). -/
  | eorAby (w : Word)
  /-- 0x5D `EOR $nnnn,X`, ABX (R146). -/
  | eorAbx (w : Word)
  /-- 0x24 `BIT $nn`, ZP0 (R147). -/
  | bitZp0 (b : Byte)
  /-- 0x2C `BIT $nnnn`, ABS (R147). -/
  | bitAbs (w : Word)
  /-- 0xE6 `INC $nn`, ZP0 (R148). -/
  | incZp0 (b : Byte)
  /-- 0xEE `INC $nnnn`, ABS (R148). -/
  | incAbs (w : Word)
  /-- 0xF6 `INC $nn,X`, ZPX (R148). -/
  | incZpx (b : Byte)
  /-- 0xFE `INC $nnnn,X`, ABX (R148). -/
  | incAbx (w : Word)
  /-- 0xC6 `DEC $nn`, ZP0 (R149). -/
  | decZp0 (b : Byte)
  /-- 0xCE `DEC $nnnn`, ABS (R149). -/
  | decAbs (w : Word)
  /-- 0xD6 `DEC $nn,X`, ZPX (R149). -/
  | decZpx (b : Byte)
  /-- 0xDE `DEC $nnnn,X`, ABX (R149). -/
  | decAbx (w : Word)
  /-- 0xE8 `INX`, IMP (R150). -/
  | inx
  /-- 0xC8 `INY`, IMP (R151). -/
  | iny
  /-- 0xCA `DEX`, IMP (R152). -/
  | dex
  /-- 0x88 `DEY`, IMP (R153). -/
  | dey
  /-- 0x06 `ASL $nn`, ZP0 (R160). -/
  | aslZp0 (b : Byte)
  /-- 0x0A `ASL A`, ACC (R160). -/
  | aslAcc
  /-- 0x0E `ASL $nnnn`, ABS (R160). -/
  | aslAbs (w : Word)
  /-- 0x16 `ASL $nn,X`, ZPX (R160). -/
  | aslZpx (b : Byte)
  /-- 0x1E `ASL $nnnn,X`, ABX (R160). -/
  | aslAbx (w : Word)
  /-- 0x46 `LSR $nn`, ZP0 (R161). -/
  | lsrZp0 (b : Byte)
  /-- 0x4A `LSR A`, ACC (R161). -/
  | lsrAcc
  /-- 0x4E `LSR $nnnn`, ABS (R161). -/
  | lsrAbs (w : Word)
  /-- 0x56 `LSR $nn,X`, ZPX (R161). -/
  | lsrZpx (b : Byte)
  /-- 0x5E `LSR $nnnn,X`, ABX (R161). -/
  | lsrAbx (w : Word)
  /-- 0x26 `ROL $nn`, ZP0 (R162). -/
  | rolZp0 (b : Byte)
  /-- 0x2A `ROL A`, ACC (R162). -/
  | rolAcc
  /-- 0x2E `ROL $nnnn`, ABS (R162). -/
  | rolAbs (w : Word)
  /-- 0x36 `ROL $nn,X`, ZPX (R162). -/
  | rolZpx (b : Byte)
  /-- 0x3E `ROL $nnnn,X`, ABX (R162). -/
  | rolAbx (w : Word)
  /-- 0x66 `ROR $nn`, ZP0 (R163). -/
  | rorZp0 (b : Byte)
  /-- 0x6A `ROR A`, ACC (R163). -/
  | rorAcc
  /-- 0x6E `ROR $nnnn`, ABS (R163). -/
  | rorAbs (w : Word)
  /-- 0x76 `ROR $nn,X`, ZPX (R163). -/
  | rorZpx (b : Byte)
  /-- 0x7E `ROR $nnnn,X`, ABX (R163). -/
  | rorAbx (w : Word)
  /-- 0xC1 `CMP ($nn,X)`, IZX (R170). -/
  | cmpIzx (b : Byte)
  /-- 0xC5 `CMP $nn`, ZP0 (R170). -/
  | cmpZp0 (b : Byte)
  /-- 0xC9 `CMP #$nn`, IMM (R170). -/
  | cmpImm (b : Byte)
  /-- 0xCD `CMP $nnnn`, ABS (R170). -/
  | cmpAbs (w : Word)
  /-- 0xD1 `CMP ($nn),Y`, IZY (R170). -/
  | cmpIzy (b : Byte)
  /-- 0xD5 `CMP $nn,X`, ZPX (R170). -/
  | cmpZpx (b : Byte)
  /-- 0xD9 `CMP $nnnn,Y`, ABY (R170). -/
  | cmpAby (w : Word)
  /-- 0xDD `CMP $nnnn,X`, ABX (R170). -/
  | cmpAbx (w : Word)
  /-- 0xE0 `CPX #$nn`, IMM (R171). -/
  | cpxImm (b : Byte)
  /-- 0xE4 `CPX $nn`, ZP0 (R171). -/
  | cpxZp0 (b : Byte)
  /-- 0xEC `CPX $nnnn`, ABS (R171). -/
  | cpxAbs (w : Word)
  /-- 0xC0 `CPY #$nn`, IMM (R172). -/
  | cpyImm (b : Byte)
  /-- 0xC4 `CPY $nn`, ZP0 (R172). -/
  | cpyZp0 (b : Byte)
  /-- 0xCC `CPY $nnnn`, ABS (R172). -/
  | cpyAbs (w : Word)
  /-- 0x90 `BCC target`, REL (R181). -/
  | bcc (b : Byte)
  /-- 0xB0 `BCS target`, REL (R182). -/
  | bcs (b : Byte)
  /-- 0xF0 `BEQ target`, REL (R183). -/
  | beq (b : Byte)
  /-- 0xD0 `BNE target`, REL (R184). -/
  | bne (b : Byte)
  /-- 0x30 `BMI target`, REL (R185). -/
  | bmi (b : Byte)
  /-- 0x10 `BPL target`, REL (R186). -/
  | bpl (b : Byte)
  /-- 0x50 `BVC target`, REL (R187). -/
  | bvc (b : Byte)
  /-- 0x70 `BVS target`, REL (R188). -/
  | bvs (b : Byte)
  /-- 0x48 `PHA`, IMP (R190). -/
  | pha
  /-- 0x08 `PHP`, IMP (R191). -/
  | php
  /-- 0x68 `PLA`, IMP (R192). -/
  | pla
  /-- 0x28 `PLP`, IMP (R193). -/
  | plp
  /-- 0xBA `TSX`, IMP (R194). -/
  | tsx
  /-- 0x9A `TXS`, IMP (R195). -/
  | txs
  /-- 0x4C `JMP $nnnn`, ABS (R200). -/
  | jmpAbs (w : Word)
  /-- 0x6C `JMP ($nnnn)`, IND (R200). -/
  | jmpInd (w : Word)
  /-- 0x20 `JSR $nnnn`, ABS (R201). -/
  | jsr (w : Word)
  /-- 0x60 `RTS`, IMP (R202). -/
  | rts
  /-- 0x40 `RTI`, IMP (R203). -/
  | rti
  /-- 0x18 `CLC`, IMP (R210). -/
  | clc
  /-- 0xD8 `CLD`, IMP (R211). -/
  | cld
  /-- 0x58 `CLI`, IMP (R212). -/
  | cli
  /-- 0xB8 `CLV`, IMP (R213). -/
  | clv
  /-- 0x38 `SEC`, IMP (R214). -/
  | sec
  /-- 0xF8 `SED`, IMP (R215). -/
  | sed
  /-- 0x78 `SEI`, IMP (R216). -/
  | sei
  /-- 0xEA `NOP`, IMP (R220). -/
  | nop
  /-- 0x00 `BRK`, IMP (R221). -/
  | brk
  /-- One of the 105 undocumented opcodes, `???` (R86, R222). -/
  | undocumented (opcode : Byte)
  deriving DecidableEq, Repr

end Sys2Proof
end

