-- ==== Sys2Proof/WellFormed.lean ====
section
/-!
DEFINITION. Which instructions the opcode table holds. Every operand value of a documented row is
legal (spec/30_encoding.md R82), so the one check is on the opcode of an undocumented instruction.
-/

namespace Sys2Proof

/-- The 105 undocumented opcode bytes, in the order of R86. -/
def undocumentedOpcodes : List Byte :=
  [0x02#8, 0x03#8, 0x04#8, 0x07#8, 0x0B#8, 0x0C#8, 0x0F#8, 0x12#8, 0x13#8, 0x14#8, 0x17#8, 0x1A#8, 0x1B#8] ++
  [0x1C#8, 0x1F#8, 0x22#8, 0x23#8, 0x27#8, 0x2B#8, 0x2F#8, 0x32#8, 0x33#8, 0x34#8, 0x37#8, 0x3A#8, 0x3B#8] ++
  [0x3C#8, 0x3F#8, 0x42#8, 0x43#8, 0x44#8, 0x47#8, 0x4B#8, 0x4F#8, 0x52#8, 0x53#8, 0x54#8, 0x57#8, 0x5A#8] ++
  [0x5B#8, 0x5C#8, 0x5F#8, 0x62#8, 0x63#8, 0x64#8, 0x67#8, 0x6B#8, 0x6F#8, 0x72#8, 0x73#8, 0x74#8, 0x77#8] ++
  [0x7A#8, 0x7B#8, 0x7C#8, 0x7F#8, 0x80#8, 0x82#8, 0x83#8, 0x87#8, 0x89#8, 0x8B#8, 0x8F#8, 0x92#8, 0x93#8] ++
  [0x97#8, 0x9B#8, 0x9C#8, 0x9E#8, 0x9F#8, 0xA3#8, 0xA7#8, 0xAB#8, 0xAF#8, 0xB2#8, 0xB3#8, 0xB7#8, 0xBB#8] ++
  [0xBF#8, 0xC2#8, 0xC3#8, 0xC7#8, 0xCB#8, 0xCF#8, 0xD2#8, 0xD3#8, 0xD4#8, 0xD7#8, 0xDA#8, 0xDB#8, 0xDC#8] ++
  [0xDF#8, 0xE2#8, 0xE3#8, 0xE7#8, 0xEB#8, 0xEF#8, 0xF2#8, 0xF3#8, 0xF4#8, 0xF7#8, 0xFA#8, 0xFB#8, 0xFC#8] ++
  [0xFF#8]

/-- An undocumented instruction carries one of R86's bytes; a documented one has no reserved operand
(R82, R86). -/
abbrev Instr.WellFormed : Instr → Prop
  | .undocumented op => op ∈ undocumentedOpcodes
  | .ldaIzx _ | .ldaZp0 _ | .ldaImm _ | .ldaAbs _ | .ldaIzy _ | .ldaZpx _ | .ldaAby _ | .ldaAbx _
  | .ldxImm _ | .ldxZp0 _ | .ldxAbs _ | .ldxZpy _ | .ldxAby _ | .ldyImm _ | .ldyZp0 _ | .ldyAbs _
  | .ldyZpx _ | .ldyAbx _ | .staIzx _ | .staZp0 _ | .staAbs _ | .staIzy _ | .staZpx _ | .staAby _
  | .staAbx _ | .stxZp0 _ | .stxAbs _ | .stxZpy _ | .styZp0 _ | .styAbs _ | .styZpx _ | .tax
  | .tay | .txa | .tya | .adcIzx _ | .adcZp0 _ | .adcImm _ | .adcAbs _ | .adcIzy _ | .adcZpx _
  | .adcAby _ | .adcAbx _ | .sbcIzx _ | .sbcZp0 _ | .sbcImm _ | .sbcAbs _ | .sbcIzy _ | .sbcZpx _
  | .sbcAby _ | .sbcAbx _ | .andIzx _ | .andZp0 _ | .andImm _ | .andAbs _ | .andIzy _ | .andZpx _
  | .andAby _ | .andAbx _ | .oraIzx _ | .oraZp0 _ | .oraImm _ | .oraAbs _ | .oraIzy _ | .oraZpx _
  | .oraAby _ | .oraAbx _ | .eorIzx _ | .eorZp0 _ | .eorImm _ | .eorAbs _ | .eorIzy _ | .eorZpx _
  | .eorAby _ | .eorAbx _ | .bitZp0 _ | .bitAbs _ | .incZp0 _ | .incAbs _ | .incZpx _ | .incAbx _
  | .decZp0 _ | .decAbs _ | .decZpx _ | .decAbx _ | .inx | .iny | .dex | .dey | .aslZp0 _
  | .aslAcc | .aslAbs _ | .aslZpx _ | .aslAbx _ | .lsrZp0 _ | .lsrAcc | .lsrAbs _ | .lsrZpx _
  | .lsrAbx _ | .rolZp0 _ | .rolAcc | .rolAbs _ | .rolZpx _ | .rolAbx _ | .rorZp0 _ | .rorAcc
  | .rorAbs _ | .rorZpx _ | .rorAbx _ | .cmpIzx _ | .cmpZp0 _ | .cmpImm _ | .cmpAbs _ | .cmpIzy _
  | .cmpZpx _ | .cmpAby _ | .cmpAbx _ | .cpxImm _ | .cpxZp0 _ | .cpxAbs _ | .cpyImm _ | .cpyZp0 _
  | .cpyAbs _ | .bcc _ | .bcs _ | .beq _ | .bne _ | .bmi _ | .bpl _ | .bvc _ | .bvs _ | .pha
  | .php | .pla | .plp | .tsx | .txs | .jmpAbs _ | .jmpInd _ | .jsr _ | .rts | .rti | .clc | .cld
  | .cli | .clv | .sec | .sed | .sei | .nop | .brk =>
    True

end Sys2Proof
end

