-- ==== Sys2Proof/Decode.lean ====
section
/-!
DEFINITION. The opcode decoder (spec/30_encoding.md): byte order helpers, the thirteen modes and
their operands, the 256-entry opcode table of descriptors, the decoder, total on any bytes, and the
encoder.
-/

namespace Sys2Proof

/-! ## Byte order, extension and pages (spec/00_scope.md R9) -/

/-- `hi:lo`, that is `(hi << 8) | lo` (R9). -/
def wordOf (hi lo : Byte) : Word := hi ++ lo

/-- `w & 0xFF`. -/
def loByte (w : Word) : Byte := w.setWidth 8

/-- `w >> 8`. -/
def hiByte (w : Word) : Byte := (w >>> 8).setWidth 8

/-- `zext_16(b)` (R9). -/
def zext16 (b : Byte) : Word := b.setWidth 16

/-- `sext_16(b)` (R9). -/
def sext16 (b : Byte) : Word := b.signExtend 16

/-- Whether two addresses lie in one page: `(v & 0xFF00) = (w & 0xFF00)` (R14, R103, R180). -/
def samePage (v w : Word) : Bool := (v &&& 0xFF00#16) == (w &&& 0xFF00#16)

/-! ## Modes, operands, mnemonics, descriptors -/

/-- The thirteen addressing modes (R87). -/
inductive Mode where
  /-- Implied. -/
  | imp
  /-- Accumulator. -/
  | acc
  /-- Immediate. -/
  | imm
  /-- Zero Page. -/
  | zp0
  /-- Zero Page,X. -/
  | zpx
  /-- Zero Page,Y. -/
  | zpy
  /-- Absolute. -/
  | abs
  /-- Absolute,X. -/
  | abx
  /-- Absolute,Y. -/
  | aby
  /-- Indirect. -/
  | ind
  /-- Indexed Indirect (X). -/
  | izx
  /-- Indirect Indexed (Y). -/
  | izy
  /-- Relative. -/
  | rel
  deriving DecidableEq, Repr

/-- The operand width of a mode in bytes (R81). -/
def Mode.width : Mode → Nat
  | .imp | .acc => 0
  | .imm | .zp0 | .zpx | .zpy | .izx | .izy | .rel => 1
  | .abs | .abx | .aby | .ind => 2

/-- A mode with its operand byte `b` or 16-bit operand `w` (R80, R87). -/
inductive Operand where
  | imp
  | acc
  | imm (b : Byte)
  | zp0 (b : Byte)
  | zpx (b : Byte)
  | zpy (b : Byte)
  | abs (w : Word)
  | abx (w : Word)
  | aby (w : Word)
  | ind (w : Word)
  | izx (b : Byte)
  | izy (b : Byte)
  | rel (b : Byte)
  deriving DecidableEq, Repr

/-- The mode of an operand (R87). -/
def Operand.mode : Operand → Mode
  | .imp => .imp
  | .acc => .acc
  | .imm _ => .imm
  | .zp0 _ => .zp0
  | .zpx _ => .zpx
  | .zpy _ => .zpy
  | .abs _ => .abs
  | .abx _ => .abx
  | .aby _ => .aby
  | .ind _ => .ind
  | .izx _ => .izx
  | .izy _ => .izy
  | .rel _ => .rel

/-- The operand bytes in address order, little-endian (R80, R82). -/
def Operand.bytes : Operand → List Byte
  | .imp | .acc => []
  | .imm b | .zp0 b | .zpx b | .zpy b | .izx b | .izy b | .rel b => [b]
  | .abs w | .abx w | .aby w | .ind w => [loByte w, hiByte w]

/-- The 56 mnemonics of R85 and the `???` of R86. -/
inductive Mnemonic where
  | lda | ldx | ldy | sta | stx | sty | tax | tay | txa | tya | adc | sbc | and | ora | eor | bit
  | inc | dec | inx | iny | dex | dey | asl | lsr | rol | ror | cmp | cpx | cpy | bcc | bcs | beq
  | bne | bmi | bpl | bvc | bvs | pha | php | pla | plp | tsx | txs | jmp | jsr | rts | rti | clc
  | cld | cli | clv | sec | sed | sei | nop | brk | undocumented
  deriving DecidableEq, Repr

/-- A descriptor of the opcode table (R84): mnemonic (which names the handler), mode, base cycle
count, and the derived `page_penalty` (R89). -/
structure Descriptor where
  mnemonic : Mnemonic
  mode : Mode
  baseCycles : Nat
  pagePenalty : Bool
  deriving DecidableEq, Repr

/-- The descriptor of every undocumented opcode (R86). -/
def illegalDescriptor : Descriptor := ⟨.undocumented, .imp, Config.illegalBaseCycles, false⟩

/-! ## The opcode table (R85, R86): sixteen rows by high nibble, columns by low nibble -/

/-- Row 0x of R85. -/
def opcodeRow0 : List Descriptor :=
  [⟨.brk, .imp, 7, false⟩, ⟨.ora, .izx, 6, false⟩, illegalDescriptor, illegalDescriptor,
   illegalDescriptor, ⟨.ora, .zp0, 3, false⟩, ⟨.asl, .zp0, 5, false⟩, illegalDescriptor,
   ⟨.php, .imp, 3, false⟩, ⟨.ora, .imm, 2, false⟩, ⟨.asl, .acc, 2, false⟩, illegalDescriptor,
   illegalDescriptor, ⟨.ora, .abs, 4, false⟩, ⟨.asl, .abs, 6, false⟩, illegalDescriptor]

/-- Row 1x of R85. -/
def opcodeRow1 : List Descriptor :=
  [⟨.bpl, .rel, 2, false⟩, ⟨.ora, .izy, 5, true⟩, illegalDescriptor, illegalDescriptor,
   illegalDescriptor, ⟨.ora, .zpx, 4, false⟩, ⟨.asl, .zpx, 6, false⟩, illegalDescriptor,
   ⟨.clc, .imp, 2, false⟩, ⟨.ora, .aby, 4, true⟩, illegalDescriptor, illegalDescriptor,
   illegalDescriptor, ⟨.ora, .abx, 4, true⟩, ⟨.asl, .abx, 7, false⟩, illegalDescriptor]

/-- Row 2x of R85. -/
def opcodeRow2 : List Descriptor :=
  [⟨.jsr, .abs, 6, false⟩, ⟨.and, .izx, 6, false⟩, illegalDescriptor, illegalDescriptor,
   ⟨.bit, .zp0, 3, false⟩, ⟨.and, .zp0, 3, false⟩, ⟨.rol, .zp0, 5, false⟩, illegalDescriptor,
   ⟨.plp, .imp, 4, false⟩, ⟨.and, .imm, 2, false⟩, ⟨.rol, .acc, 2, false⟩, illegalDescriptor,
   ⟨.bit, .abs, 4, false⟩, ⟨.and, .abs, 4, false⟩, ⟨.rol, .abs, 6, false⟩, illegalDescriptor]

/-- Row 3x of R85. -/
def opcodeRow3 : List Descriptor :=
  [⟨.bmi, .rel, 2, false⟩, ⟨.and, .izy, 5, true⟩, illegalDescriptor, illegalDescriptor,
   illegalDescriptor, ⟨.and, .zpx, 4, false⟩, ⟨.rol, .zpx, 6, false⟩, illegalDescriptor,
   ⟨.sec, .imp, 2, false⟩, ⟨.and, .aby, 4, true⟩, illegalDescriptor, illegalDescriptor,
   illegalDescriptor, ⟨.and, .abx, 4, true⟩, ⟨.rol, .abx, 7, false⟩, illegalDescriptor]

/-- Row 4x of R85. -/
def opcodeRow4 : List Descriptor :=
  [⟨.rti, .imp, 6, false⟩, ⟨.eor, .izx, 6, false⟩, illegalDescriptor, illegalDescriptor,
   illegalDescriptor, ⟨.eor, .zp0, 3, false⟩, ⟨.lsr, .zp0, 5, false⟩, illegalDescriptor,
   ⟨.pha, .imp, 3, false⟩, ⟨.eor, .imm, 2, false⟩, ⟨.lsr, .acc, 2, false⟩, illegalDescriptor,
   ⟨.jmp, .abs, 3, false⟩, ⟨.eor, .abs, 4, false⟩, ⟨.lsr, .abs, 6, false⟩, illegalDescriptor]

/-- Row 5x of R85. -/
def opcodeRow5 : List Descriptor :=
  [⟨.bvc, .rel, 2, false⟩, ⟨.eor, .izy, 5, true⟩, illegalDescriptor, illegalDescriptor,
   illegalDescriptor, ⟨.eor, .zpx, 4, false⟩, ⟨.lsr, .zpx, 6, false⟩, illegalDescriptor,
   ⟨.cli, .imp, 2, false⟩, ⟨.eor, .aby, 4, true⟩, illegalDescriptor, illegalDescriptor,
   illegalDescriptor, ⟨.eor, .abx, 4, true⟩, ⟨.lsr, .abx, 7, false⟩, illegalDescriptor]

/-- Row 6x of R85. -/
def opcodeRow6 : List Descriptor :=
  [⟨.rts, .imp, 6, false⟩, ⟨.adc, .izx, 6, false⟩, illegalDescriptor, illegalDescriptor,
   illegalDescriptor, ⟨.adc, .zp0, 3, false⟩, ⟨.ror, .zp0, 5, false⟩, illegalDescriptor,
   ⟨.pla, .imp, 4, false⟩, ⟨.adc, .imm, 2, false⟩, ⟨.ror, .acc, 2, false⟩, illegalDescriptor,
   ⟨.jmp, .ind, 5, false⟩, ⟨.adc, .abs, 4, false⟩, ⟨.ror, .abs, 6, false⟩, illegalDescriptor]

/-- Row 7x of R85. -/
def opcodeRow7 : List Descriptor :=
  [⟨.bvs, .rel, 2, false⟩, ⟨.adc, .izy, 5, true⟩, illegalDescriptor, illegalDescriptor,
   illegalDescriptor, ⟨.adc, .zpx, 4, false⟩, ⟨.ror, .zpx, 6, false⟩, illegalDescriptor,
   ⟨.sei, .imp, 2, false⟩, ⟨.adc, .aby, 4, true⟩, illegalDescriptor, illegalDescriptor,
   illegalDescriptor, ⟨.adc, .abx, 4, true⟩, ⟨.ror, .abx, 7, false⟩, illegalDescriptor]

/-- Row 8x of R85. -/
def opcodeRow8 : List Descriptor :=
  [illegalDescriptor, ⟨.sta, .izx, 6, false⟩, illegalDescriptor, illegalDescriptor,
   ⟨.sty, .zp0, 3, false⟩, ⟨.sta, .zp0, 3, false⟩, ⟨.stx, .zp0, 3, false⟩, illegalDescriptor,
   ⟨.dey, .imp, 2, false⟩, illegalDescriptor, ⟨.txa, .imp, 2, false⟩, illegalDescriptor,
   ⟨.sty, .abs, 4, false⟩, ⟨.sta, .abs, 4, false⟩, ⟨.stx, .abs, 4, false⟩, illegalDescriptor]

/-- Row 9x of R85. -/
def opcodeRow9 : List Descriptor :=
  [⟨.bcc, .rel, 2, false⟩, ⟨.sta, .izy, 6, false⟩, illegalDescriptor, illegalDescriptor,
   ⟨.sty, .zpx, 4, false⟩, ⟨.sta, .zpx, 4, false⟩, ⟨.stx, .zpy, 4, false⟩, illegalDescriptor,
   ⟨.tya, .imp, 2, false⟩, ⟨.sta, .aby, 5, false⟩, ⟨.txs, .imp, 2, false⟩, illegalDescriptor,
   illegalDescriptor, ⟨.sta, .abx, 5, false⟩, illegalDescriptor, illegalDescriptor]

/-- Row Ax of R85. -/
def opcodeRowA : List Descriptor :=
  [⟨.ldy, .imm, 2, false⟩, ⟨.lda, .izx, 6, false⟩, ⟨.ldx, .imm, 2, false⟩, illegalDescriptor,
   ⟨.ldy, .zp0, 3, false⟩, ⟨.lda, .zp0, 3, false⟩, ⟨.ldx, .zp0, 3, false⟩, illegalDescriptor,
   ⟨.tay, .imp, 2, false⟩, ⟨.lda, .imm, 2, false⟩, ⟨.tax, .imp, 2, false⟩, illegalDescriptor,
   ⟨.ldy, .abs, 4, false⟩, ⟨.lda, .abs, 4, false⟩, ⟨.ldx, .abs, 4, false⟩, illegalDescriptor]

/-- Row Bx of R85. -/
def opcodeRowB : List Descriptor :=
  [⟨.bcs, .rel, 2, false⟩, ⟨.lda, .izy, 5, true⟩, illegalDescriptor, illegalDescriptor,
   ⟨.ldy, .zpx, 4, false⟩, ⟨.lda, .zpx, 4, false⟩, ⟨.ldx, .zpy, 4, false⟩, illegalDescriptor,
   ⟨.clv, .imp, 2, false⟩, ⟨.lda, .aby, 4, true⟩, ⟨.tsx, .imp, 2, false⟩, illegalDescriptor,
   ⟨.ldy, .abx, 4, true⟩, ⟨.lda, .abx, 4, true⟩, ⟨.ldx, .aby, 4, true⟩, illegalDescriptor]

/-- Row Cx of R85. -/
def opcodeRowC : List Descriptor :=
  [⟨.cpy, .imm, 2, false⟩, ⟨.cmp, .izx, 6, false⟩, illegalDescriptor, illegalDescriptor,
   ⟨.cpy, .zp0, 3, false⟩, ⟨.cmp, .zp0, 3, false⟩, ⟨.dec, .zp0, 5, false⟩, illegalDescriptor,
   ⟨.iny, .imp, 2, false⟩, ⟨.cmp, .imm, 2, false⟩, ⟨.dex, .imp, 2, false⟩, illegalDescriptor,
   ⟨.cpy, .abs, 4, false⟩, ⟨.cmp, .abs, 4, false⟩, ⟨.dec, .abs, 6, false⟩, illegalDescriptor]

/-- Row Dx of R85. -/
def opcodeRowD : List Descriptor :=
  [⟨.bne, .rel, 2, false⟩, ⟨.cmp, .izy, 5, true⟩, illegalDescriptor, illegalDescriptor,
   illegalDescriptor, ⟨.cmp, .zpx, 4, false⟩, ⟨.dec, .zpx, 6, false⟩, illegalDescriptor,
   ⟨.cld, .imp, 2, false⟩, ⟨.cmp, .aby, 4, true⟩, illegalDescriptor, illegalDescriptor,
   illegalDescriptor, ⟨.cmp, .abx, 4, true⟩, ⟨.dec, .abx, 7, false⟩, illegalDescriptor]

/-- Row Ex of R85. -/
def opcodeRowE : List Descriptor :=
  [⟨.cpx, .imm, 2, false⟩, ⟨.sbc, .izx, 6, false⟩, illegalDescriptor, illegalDescriptor,
   ⟨.cpx, .zp0, 3, false⟩, ⟨.sbc, .zp0, 3, false⟩, ⟨.inc, .zp0, 5, false⟩, illegalDescriptor,
   ⟨.inx, .imp, 2, false⟩, ⟨.sbc, .imm, 2, false⟩, ⟨.nop, .imp, 2, false⟩, illegalDescriptor,
   ⟨.cpx, .abs, 4, false⟩, ⟨.sbc, .abs, 4, false⟩, ⟨.inc, .abs, 6, false⟩, illegalDescriptor]

/-- Row Fx of R85. -/
def opcodeRowF : List Descriptor :=
  [⟨.beq, .rel, 2, false⟩, ⟨.sbc, .izy, 5, true⟩, illegalDescriptor, illegalDescriptor,
   illegalDescriptor, ⟨.sbc, .zpx, 4, false⟩, ⟨.inc, .zpx, 6, false⟩, illegalDescriptor,
   ⟨.sed, .imp, 2, false⟩, ⟨.sbc, .aby, 4, true⟩, illegalDescriptor, illegalDescriptor,
   illegalDescriptor, ⟨.sbc, .abx, 4, true⟩, ⟨.inc, .abx, 7, false⟩, illegalDescriptor]

/-- The sixteen rows of R85. -/
def opcodeRows : List (List Descriptor) :=
  [opcodeRow0, opcodeRow1, opcodeRow2, opcodeRow3, opcodeRow4, opcodeRow5, opcodeRow6, opcodeRow7,
   opcodeRow8, opcodeRow9, opcodeRowA, opcodeRowB, opcodeRowC, opcodeRowD, opcodeRowE, opcodeRowF]

/-- The whole table, 256 descriptors in opcode order (R83). -/
def opcodeTable : List Descriptor := opcodeRows.flatten

/-- `Table[opcode]`: total, never fails (R83, R91). -/
def descriptor (op : Byte) : Descriptor := opcodeTable.getD op.toNat illegalDescriptor

/-! ## Instructions by opcode, mnemonic and operand -/

/-- The opcode byte of an instruction (R85, R86). -/
def Instr.opcode : Instr → Byte
  | .ldaIzx _ => 0xA1#8
  | .ldaZp0 _ => 0xA5#8
  | .ldaImm _ => 0xA9#8
  | .ldaAbs _ => 0xAD#8
  | .ldaIzy _ => 0xB1#8
  | .ldaZpx _ => 0xB5#8
  | .ldaAby _ => 0xB9#8
  | .ldaAbx _ => 0xBD#8
  | .ldxImm _ => 0xA2#8
  | .ldxZp0 _ => 0xA6#8
  | .ldxAbs _ => 0xAE#8
  | .ldxZpy _ => 0xB6#8
  | .ldxAby _ => 0xBE#8
  | .ldyImm _ => 0xA0#8
  | .ldyZp0 _ => 0xA4#8
  | .ldyAbs _ => 0xAC#8
  | .ldyZpx _ => 0xB4#8
  | .ldyAbx _ => 0xBC#8
  | .staIzx _ => 0x81#8
  | .staZp0 _ => 0x85#8
  | .staAbs _ => 0x8D#8
  | .staIzy _ => 0x91#8
  | .staZpx _ => 0x95#8
  | .staAby _ => 0x99#8
  | .staAbx _ => 0x9D#8
  | .stxZp0 _ => 0x86#8
  | .stxAbs _ => 0x8E#8
  | .stxZpy _ => 0x96#8
  | .styZp0 _ => 0x84#8
  | .styAbs _ => 0x8C#8
  | .styZpx _ => 0x94#8
  | .tax => 0xAA#8
  | .tay => 0xA8#8
  | .txa => 0x8A#8
  | .tya => 0x98#8
  | .adcIzx _ => 0x61#8
  | .adcZp0 _ => 0x65#8
  | .adcImm _ => 0x69#8
  | .adcAbs _ => 0x6D#8
  | .adcIzy _ => 0x71#8
  | .adcZpx _ => 0x75#8
  | .adcAby _ => 0x79#8
  | .adcAbx _ => 0x7D#8
  | .sbcIzx _ => 0xE1#8
  | .sbcZp0 _ => 0xE5#8
  | .sbcImm _ => 0xE9#8
  | .sbcAbs _ => 0xED#8
  | .sbcIzy _ => 0xF1#8
  | .sbcZpx _ => 0xF5#8
  | .sbcAby _ => 0xF9#8
  | .sbcAbx _ => 0xFD#8
  | .andIzx _ => 0x21#8
  | .andZp0 _ => 0x25#8
  | .andImm _ => 0x29#8
  | .andAbs _ => 0x2D#8
  | .andIzy _ => 0x31#8
  | .andZpx _ => 0x35#8
  | .andAby _ => 0x39#8
  | .andAbx _ => 0x3D#8
  | .oraIzx _ => 0x01#8
  | .oraZp0 _ => 0x05#8
  | .oraImm _ => 0x09#8
  | .oraAbs _ => 0x0D#8
  | .oraIzy _ => 0x11#8
  | .oraZpx _ => 0x15#8
  | .oraAby _ => 0x19#8
  | .oraAbx _ => 0x1D#8
  | .eorIzx _ => 0x41#8
  | .eorZp0 _ => 0x45#8
  | .eorImm _ => 0x49#8
  | .eorAbs _ => 0x4D#8
  | .eorIzy _ => 0x51#8
  | .eorZpx _ => 0x55#8
  | .eorAby _ => 0x59#8
  | .eorAbx _ => 0x5D#8
  | .bitZp0 _ => 0x24#8
  | .bitAbs _ => 0x2C#8
  | .incZp0 _ => 0xE6#8
  | .incAbs _ => 0xEE#8
  | .incZpx _ => 0xF6#8
  | .incAbx _ => 0xFE#8
  | .decZp0 _ => 0xC6#8
  | .decAbs _ => 0xCE#8
  | .decZpx _ => 0xD6#8
  | .decAbx _ => 0xDE#8
  | .inx => 0xE8#8
  | .iny => 0xC8#8
  | .dex => 0xCA#8
  | .dey => 0x88#8
  | .aslZp0 _ => 0x06#8
  | .aslAcc => 0x0A#8
  | .aslAbs _ => 0x0E#8
  | .aslZpx _ => 0x16#8
  | .aslAbx _ => 0x1E#8
  | .lsrZp0 _ => 0x46#8
  | .lsrAcc => 0x4A#8
  | .lsrAbs _ => 0x4E#8
  | .lsrZpx _ => 0x56#8
  | .lsrAbx _ => 0x5E#8
  | .rolZp0 _ => 0x26#8
  | .rolAcc => 0x2A#8
  | .rolAbs _ => 0x2E#8
  | .rolZpx _ => 0x36#8
  | .rolAbx _ => 0x3E#8
  | .rorZp0 _ => 0x66#8
  | .rorAcc => 0x6A#8
  | .rorAbs _ => 0x6E#8
  | .rorZpx _ => 0x76#8
  | .rorAbx _ => 0x7E#8
  | .cmpIzx _ => 0xC1#8
  | .cmpZp0 _ => 0xC5#8
  | .cmpImm _ => 0xC9#8
  | .cmpAbs _ => 0xCD#8
  | .cmpIzy _ => 0xD1#8
  | .cmpZpx _ => 0xD5#8
  | .cmpAby _ => 0xD9#8
  | .cmpAbx _ => 0xDD#8
  | .cpxImm _ => 0xE0#8
  | .cpxZp0 _ => 0xE4#8
  | .cpxAbs _ => 0xEC#8
  | .cpyImm _ => 0xC0#8
  | .cpyZp0 _ => 0xC4#8
  | .cpyAbs _ => 0xCC#8
  | .bcc _ => 0x90#8
  | .bcs _ => 0xB0#8
  | .beq _ => 0xF0#8
  | .bne _ => 0xD0#8
  | .bmi _ => 0x30#8
  | .bpl _ => 0x10#8
  | .bvc _ => 0x50#8
  | .bvs _ => 0x70#8
  | .pha => 0x48#8
  | .php => 0x08#8
  | .pla => 0x68#8
  | .plp => 0x28#8
  | .tsx => 0xBA#8
  | .txs => 0x9A#8
  | .jmpAbs _ => 0x4C#8
  | .jmpInd _ => 0x6C#8
  | .jsr _ => 0x20#8
  | .rts => 0x60#8
  | .rti => 0x40#8
  | .clc => 0x18#8
  | .cld => 0xD8#8
  | .cli => 0x58#8
  | .clv => 0xB8#8
  | .sec => 0x38#8
  | .sed => 0xF8#8
  | .sei => 0x78#8
  | .nop => 0xEA#8
  | .brk => 0x00#8
  | .undocumented op => op

/-- The mnemonic of an instruction (R85, R86). -/
def Instr.mnemonic : Instr → Mnemonic
  | .ldaIzx _ => .lda
  | .ldaZp0 _ => .lda
  | .ldaImm _ => .lda
  | .ldaAbs _ => .lda
  | .ldaIzy _ => .lda
  | .ldaZpx _ => .lda
  | .ldaAby _ => .lda
  | .ldaAbx _ => .lda
  | .ldxImm _ => .ldx
  | .ldxZp0 _ => .ldx
  | .ldxAbs _ => .ldx
  | .ldxZpy _ => .ldx
  | .ldxAby _ => .ldx
  | .ldyImm _ => .ldy
  | .ldyZp0 _ => .ldy
  | .ldyAbs _ => .ldy
  | .ldyZpx _ => .ldy
  | .ldyAbx _ => .ldy
  | .staIzx _ => .sta
  | .staZp0 _ => .sta
  | .staAbs _ => .sta
  | .staIzy _ => .sta
  | .staZpx _ => .sta
  | .staAby _ => .sta
  | .staAbx _ => .sta
  | .stxZp0 _ => .stx
  | .stxAbs _ => .stx
  | .stxZpy _ => .stx
  | .styZp0 _ => .sty
  | .styAbs _ => .sty
  | .styZpx _ => .sty
  | .tax => .tax
  | .tay => .tay
  | .txa => .txa
  | .tya => .tya
  | .adcIzx _ => .adc
  | .adcZp0 _ => .adc
  | .adcImm _ => .adc
  | .adcAbs _ => .adc
  | .adcIzy _ => .adc
  | .adcZpx _ => .adc
  | .adcAby _ => .adc
  | .adcAbx _ => .adc
  | .sbcIzx _ => .sbc
  | .sbcZp0 _ => .sbc
  | .sbcImm _ => .sbc
  | .sbcAbs _ => .sbc
  | .sbcIzy _ => .sbc
  | .sbcZpx _ => .sbc
  | .sbcAby _ => .sbc
  | .sbcAbx _ => .sbc
  | .andIzx _ => .and
  | .andZp0 _ => .and
  | .andImm _ => .and
  | .andAbs _ => .and
  | .andIzy _ => .and
  | .andZpx _ => .and
  | .andAby _ => .and
  | .andAbx _ => .and
  | .oraIzx _ => .ora
  | .oraZp0 _ => .ora
  | .oraImm _ => .ora
  | .oraAbs _ => .ora
  | .oraIzy _ => .ora
  | .oraZpx _ => .ora
  | .oraAby _ => .ora
  | .oraAbx _ => .ora
  | .eorIzx _ => .eor
  | .eorZp0 _ => .eor
  | .eorImm _ => .eor
  | .eorAbs _ => .eor
  | .eorIzy _ => .eor
  | .eorZpx _ => .eor
  | .eorAby _ => .eor
  | .eorAbx _ => .eor
  | .bitZp0 _ => .bit
  | .bitAbs _ => .bit
  | .incZp0 _ => .inc
  | .incAbs _ => .inc
  | .incZpx _ => .inc
  | .incAbx _ => .inc
  | .decZp0 _ => .dec
  | .decAbs _ => .dec
  | .decZpx _ => .dec
  | .decAbx _ => .dec
  | .inx => .inx
  | .iny => .iny
  | .dex => .dex
  | .dey => .dey
  | .aslZp0 _ => .asl
  | .aslAcc => .asl
  | .aslAbs _ => .asl
  | .aslZpx _ => .asl
  | .aslAbx _ => .asl
  | .lsrZp0 _ => .lsr
  | .lsrAcc => .lsr
  | .lsrAbs _ => .lsr
  | .lsrZpx _ => .lsr
  | .lsrAbx _ => .lsr
  | .rolZp0 _ => .rol
  | .rolAcc => .rol
  | .rolAbs _ => .rol
  | .rolZpx _ => .rol
  | .rolAbx _ => .rol
  | .rorZp0 _ => .ror
  | .rorAcc => .ror
  | .rorAbs _ => .ror
  | .rorZpx _ => .ror
  | .rorAbx _ => .ror
  | .cmpIzx _ => .cmp
  | .cmpZp0 _ => .cmp
  | .cmpImm _ => .cmp
  | .cmpAbs _ => .cmp
  | .cmpIzy _ => .cmp
  | .cmpZpx _ => .cmp
  | .cmpAby _ => .cmp
  | .cmpAbx _ => .cmp
  | .cpxImm _ => .cpx
  | .cpxZp0 _ => .cpx
  | .cpxAbs _ => .cpx
  | .cpyImm _ => .cpy
  | .cpyZp0 _ => .cpy
  | .cpyAbs _ => .cpy
  | .bcc _ => .bcc
  | .bcs _ => .bcs
  | .beq _ => .beq
  | .bne _ => .bne
  | .bmi _ => .bmi
  | .bpl _ => .bpl
  | .bvc _ => .bvc
  | .bvs _ => .bvs
  | .pha => .pha
  | .php => .php
  | .pla => .pla
  | .plp => .plp
  | .tsx => .tsx
  | .txs => .txs
  | .jmpAbs _ => .jmp
  | .jmpInd _ => .jmp
  | .jsr _ => .jsr
  | .rts => .rts
  | .rti => .rti
  | .clc => .clc
  | .cld => .cld
  | .cli => .cli
  | .clv => .clv
  | .sec => .sec
  | .sed => .sed
  | .sei => .sei
  | .nop => .nop
  | .brk => .brk
  | .undocumented _ => .undocumented

/-- The mode and operand of an instruction (R85, R86). -/
def Instr.operand : Instr → Operand
  | .ldaIzx b => .izx b
  | .ldaZp0 b => .zp0 b
  | .ldaImm b => .imm b
  | .ldaAbs w => .abs w
  | .ldaIzy b => .izy b
  | .ldaZpx b => .zpx b
  | .ldaAby w => .aby w
  | .ldaAbx w => .abx w
  | .ldxImm b => .imm b
  | .ldxZp0 b => .zp0 b
  | .ldxAbs w => .abs w
  | .ldxZpy b => .zpy b
  | .ldxAby w => .aby w
  | .ldyImm b => .imm b
  | .ldyZp0 b => .zp0 b
  | .ldyAbs w => .abs w
  | .ldyZpx b => .zpx b
  | .ldyAbx w => .abx w
  | .staIzx b => .izx b
  | .staZp0 b => .zp0 b
  | .staAbs w => .abs w
  | .staIzy b => .izy b
  | .staZpx b => .zpx b
  | .staAby w => .aby w
  | .staAbx w => .abx w
  | .stxZp0 b => .zp0 b
  | .stxAbs w => .abs w
  | .stxZpy b => .zpy b
  | .styZp0 b => .zp0 b
  | .styAbs w => .abs w
  | .styZpx b => .zpx b
  | .tax => .imp
  | .tay => .imp
  | .txa => .imp
  | .tya => .imp
  | .adcIzx b => .izx b
  | .adcZp0 b => .zp0 b
  | .adcImm b => .imm b
  | .adcAbs w => .abs w
  | .adcIzy b => .izy b
  | .adcZpx b => .zpx b
  | .adcAby w => .aby w
  | .adcAbx w => .abx w
  | .sbcIzx b => .izx b
  | .sbcZp0 b => .zp0 b
  | .sbcImm b => .imm b
  | .sbcAbs w => .abs w
  | .sbcIzy b => .izy b
  | .sbcZpx b => .zpx b
  | .sbcAby w => .aby w
  | .sbcAbx w => .abx w
  | .andIzx b => .izx b
  | .andZp0 b => .zp0 b
  | .andImm b => .imm b
  | .andAbs w => .abs w
  | .andIzy b => .izy b
  | .andZpx b => .zpx b
  | .andAby w => .aby w
  | .andAbx w => .abx w
  | .oraIzx b => .izx b
  | .oraZp0 b => .zp0 b
  | .oraImm b => .imm b
  | .oraAbs w => .abs w
  | .oraIzy b => .izy b
  | .oraZpx b => .zpx b
  | .oraAby w => .aby w
  | .oraAbx w => .abx w
  | .eorIzx b => .izx b
  | .eorZp0 b => .zp0 b
  | .eorImm b => .imm b
  | .eorAbs w => .abs w
  | .eorIzy b => .izy b
  | .eorZpx b => .zpx b
  | .eorAby w => .aby w
  | .eorAbx w => .abx w
  | .bitZp0 b => .zp0 b
  | .bitAbs w => .abs w
  | .incZp0 b => .zp0 b
  | .incAbs w => .abs w
  | .incZpx b => .zpx b
  | .incAbx w => .abx w
  | .decZp0 b => .zp0 b
  | .decAbs w => .abs w
  | .decZpx b => .zpx b
  | .decAbx w => .abx w
  | .inx => .imp
  | .iny => .imp
  | .dex => .imp
  | .dey => .imp
  | .aslZp0 b => .zp0 b
  | .aslAcc => .acc
  | .aslAbs w => .abs w
  | .aslZpx b => .zpx b
  | .aslAbx w => .abx w
  | .lsrZp0 b => .zp0 b
  | .lsrAcc => .acc
  | .lsrAbs w => .abs w
  | .lsrZpx b => .zpx b
  | .lsrAbx w => .abx w
  | .rolZp0 b => .zp0 b
  | .rolAcc => .acc
  | .rolAbs w => .abs w
  | .rolZpx b => .zpx b
  | .rolAbx w => .abx w
  | .rorZp0 b => .zp0 b
  | .rorAcc => .acc
  | .rorAbs w => .abs w
  | .rorZpx b => .zpx b
  | .rorAbx w => .abx w
  | .cmpIzx b => .izx b
  | .cmpZp0 b => .zp0 b
  | .cmpImm b => .imm b
  | .cmpAbs w => .abs w
  | .cmpIzy b => .izy b
  | .cmpZpx b => .zpx b
  | .cmpAby w => .aby w
  | .cmpAbx w => .abx w
  | .cpxImm b => .imm b
  | .cpxZp0 b => .zp0 b
  | .cpxAbs w => .abs w
  | .cpyImm b => .imm b
  | .cpyZp0 b => .zp0 b
  | .cpyAbs w => .abs w
  | .bcc b => .rel b
  | .bcs b => .rel b
  | .beq b => .rel b
  | .bne b => .rel b
  | .bmi b => .rel b
  | .bpl b => .rel b
  | .bvc b => .rel b
  | .bvs b => .rel b
  | .pha => .imp
  | .php => .imp
  | .pla => .imp
  | .plp => .imp
  | .tsx => .imp
  | .txs => .imp
  | .jmpAbs w => .abs w
  | .jmpInd w => .ind w
  | .jsr w => .abs w
  | .rts => .imp
  | .rti => .imp
  | .clc => .imp
  | .cld => .imp
  | .cli => .imp
  | .clv => .imp
  | .sec => .imp
  | .sed => .imp
  | .sei => .imp
  | .nop => .imp
  | .brk => .imp
  | .undocumented _ => .imp

/-- The length in bytes: 1 plus the operand width (R81). -/
def Instr.length (i : Instr) : Nat := 1 + i.operand.mode.width

/-! ## Decoder and encoder -/

/-- The instruction an opcode byte selects, with `lo` and `hi` the two bytes that follow it in memory
(R80, R83). A byte that R85 does not assign is undocumented (R86). -/
def decodeInstr (op lo hi : Byte) : Instr :=
  match op.toNat with
  | 0x00 => .brk
  | 0x01 => .oraIzx lo
  | 0x05 => .oraZp0 lo
  | 0x06 => .aslZp0 lo
  | 0x08 => .php
  | 0x09 => .oraImm lo
  | 0x0A => .aslAcc
  | 0x0D => .oraAbs (wordOf hi lo)
  | 0x0E => .aslAbs (wordOf hi lo)
  | 0x10 => .bpl lo
  | 0x11 => .oraIzy lo
  | 0x15 => .oraZpx lo
  | 0x16 => .aslZpx lo
  | 0x18 => .clc
  | 0x19 => .oraAby (wordOf hi lo)
  | 0x1D => .oraAbx (wordOf hi lo)
  | 0x1E => .aslAbx (wordOf hi lo)
  | 0x20 => .jsr (wordOf hi lo)
  | 0x21 => .andIzx lo
  | 0x24 => .bitZp0 lo
  | 0x25 => .andZp0 lo
  | 0x26 => .rolZp0 lo
  | 0x28 => .plp
  | 0x29 => .andImm lo
  | 0x2A => .rolAcc
  | 0x2C => .bitAbs (wordOf hi lo)
  | 0x2D => .andAbs (wordOf hi lo)
  | 0x2E => .rolAbs (wordOf hi lo)
  | 0x30 => .bmi lo
  | 0x31 => .andIzy lo
  | 0x35 => .andZpx lo
  | 0x36 => .rolZpx lo
  | 0x38 => .sec
  | 0x39 => .andAby (wordOf hi lo)
  | 0x3D => .andAbx (wordOf hi lo)
  | 0x3E => .rolAbx (wordOf hi lo)
  | 0x40 => .rti
  | 0x41 => .eorIzx lo
  | 0x45 => .eorZp0 lo
  | 0x46 => .lsrZp0 lo
  | 0x48 => .pha
  | 0x49 => .eorImm lo
  | 0x4A => .lsrAcc
  | 0x4C => .jmpAbs (wordOf hi lo)
  | 0x4D => .eorAbs (wordOf hi lo)
  | 0x4E => .lsrAbs (wordOf hi lo)
  | 0x50 => .bvc lo
  | 0x51 => .eorIzy lo
  | 0x55 => .eorZpx lo
  | 0x56 => .lsrZpx lo
  | 0x58 => .cli
  | 0x59 => .eorAby (wordOf hi lo)
  | 0x5D => .eorAbx (wordOf hi lo)
  | 0x5E => .lsrAbx (wordOf hi lo)
  | 0x60 => .rts
  | 0x61 => .adcIzx lo
  | 0x65 => .adcZp0 lo
  | 0x66 => .rorZp0 lo
  | 0x68 => .pla
  | 0x69 => .adcImm lo
  | 0x6A => .rorAcc
  | 0x6C => .jmpInd (wordOf hi lo)
  | 0x6D => .adcAbs (wordOf hi lo)
  | 0x6E => .rorAbs (wordOf hi lo)
  | 0x70 => .bvs lo
  | 0x71 => .adcIzy lo
  | 0x75 => .adcZpx lo
  | 0x76 => .rorZpx lo
  | 0x78 => .sei
  | 0x79 => .adcAby (wordOf hi lo)
  | 0x7D => .adcAbx (wordOf hi lo)
  | 0x7E => .rorAbx (wordOf hi lo)
  | 0x81 => .staIzx lo
  | 0x84 => .styZp0 lo
  | 0x85 => .staZp0 lo
  | 0x86 => .stxZp0 lo
  | 0x88 => .dey
  | 0x8A => .txa
  | 0x8C => .styAbs (wordOf hi lo)
  | 0x8D => .staAbs (wordOf hi lo)
  | 0x8E => .stxAbs (wordOf hi lo)
  | 0x90 => .bcc lo
  | 0x91 => .staIzy lo
  | 0x94 => .styZpx lo
  | 0x95 => .staZpx lo
  | 0x96 => .stxZpy lo
  | 0x98 => .tya
  | 0x99 => .staAby (wordOf hi lo)
  | 0x9A => .txs
  | 0x9D => .staAbx (wordOf hi lo)
  | 0xA0 => .ldyImm lo
  | 0xA1 => .ldaIzx lo
  | 0xA2 => .ldxImm lo
  | 0xA4 => .ldyZp0 lo
  | 0xA5 => .ldaZp0 lo
  | 0xA6 => .ldxZp0 lo
  | 0xA8 => .tay
  | 0xA9 => .ldaImm lo
  | 0xAA => .tax
  | 0xAC => .ldyAbs (wordOf hi lo)
  | 0xAD => .ldaAbs (wordOf hi lo)
  | 0xAE => .ldxAbs (wordOf hi lo)
  | 0xB0 => .bcs lo
  | 0xB1 => .ldaIzy lo
  | 0xB4 => .ldyZpx lo
  | 0xB5 => .ldaZpx lo
  | 0xB6 => .ldxZpy lo
  | 0xB8 => .clv
  | 0xB9 => .ldaAby (wordOf hi lo)
  | 0xBA => .tsx
  | 0xBC => .ldyAbx (wordOf hi lo)
  | 0xBD => .ldaAbx (wordOf hi lo)
  | 0xBE => .ldxAby (wordOf hi lo)
  | 0xC0 => .cpyImm lo
  | 0xC1 => .cmpIzx lo
  | 0xC4 => .cpyZp0 lo
  | 0xC5 => .cmpZp0 lo
  | 0xC6 => .decZp0 lo
  | 0xC8 => .iny
  | 0xC9 => .cmpImm lo
  | 0xCA => .dex
  | 0xCC => .cpyAbs (wordOf hi lo)
  | 0xCD => .cmpAbs (wordOf hi lo)
  | 0xCE => .decAbs (wordOf hi lo)
  | 0xD0 => .bne lo
  | 0xD1 => .cmpIzy lo
  | 0xD5 => .cmpZpx lo
  | 0xD6 => .decZpx lo
  | 0xD8 => .cld
  | 0xD9 => .cmpAby (wordOf hi lo)
  | 0xDD => .cmpAbx (wordOf hi lo)
  | 0xDE => .decAbx (wordOf hi lo)
  | 0xE0 => .cpxImm lo
  | 0xE1 => .sbcIzx lo
  | 0xE4 => .cpxZp0 lo
  | 0xE5 => .sbcZp0 lo
  | 0xE6 => .incZp0 lo
  | 0xE8 => .inx
  | 0xE9 => .sbcImm lo
  | 0xEA => .nop
  | 0xEC => .cpxAbs (wordOf hi lo)
  | 0xED => .sbcAbs (wordOf hi lo)
  | 0xEE => .incAbs (wordOf hi lo)
  | 0xF0 => .beq lo
  | 0xF1 => .sbcIzy lo
  | 0xF5 => .sbcZpx lo
  | 0xF6 => .incZpx lo
  | 0xF8 => .sed
  | 0xF9 => .sbcAby (wordOf hi lo)
  | 0xFD => .sbcAbx (wordOf hi lo)
  | 0xFE => .incAbx (wordOf hi lo)
  | _ => .undocumented op

/-- Why a list of bytes is no instruction: it is empty, or it ends before the opcode's operand. -/
inductive DecodeError where
  | noBytes
  | truncated (opcode : Byte)
  deriving DecidableEq, Repr

/-- Decode the instruction at the head of a list of bytes and give the bytes after it (R80 to R83).
Only a list that is too short is refused, by name; every opcode byte decodes (R91). -/
def decode : List Byte → Except DecodeError (Instr × List Byte)
  | [] => .error .noBytes
  | op :: rest =>
    match (descriptor op).mode.width, rest with
    | 0, rest => .ok (decodeInstr op 0x00#8 0x00#8, rest)
    | 1, lo :: rest => .ok (decodeInstr op lo 0x00#8, rest)
    | 2, lo :: hi :: rest => .ok (decodeInstr op lo hi, rest)
    | _, _ => .error (.truncated op)

/-- The bytes of an instruction in address order (R80, R82, R85). -/
def encode (i : Instr) : List Byte := i.opcode :: i.operand.bytes

/-- The instruction the decoder reads from bits numbered as spec/opcode_table.json numbers them: bit
0 is the least significant bit of the first byte, later bytes count on; bits from `nbits` up are 0. -/
def decodeTableWord (nbits w : Nat) : Option Instr :=
  let v := w % 2 ^ nbits
  match decode [BitVec.ofNat 8 v, BitVec.ofNat 8 (v / 256), BitVec.ofNat 8 (v / 65536)] with
  | .ok (i, _) => some i
  | .error _ => none

end Sys2Proof
end

