-- ==== Sys2Proof/Machine/State.lean ====
section
/-!
DEFINITION. The one state record of the core (spec/10_state.md), the reasons a step can stop, the
state after construction (R44) and the state right after reset (R45).
The record is plain data; every field is named in INVENTORY.md with its rule.
-/

namespace Sys2Proof.Machine

/-- The bytes behind the default bus (R70): (address, byte) pairs, addresses strictly rising, no
entry equal to what an unlisted address reads as (`Memory.wf`). -/
abbrev Memory := List Host.Cell

/-- The three host operations that need an Idle engine (R284). -/
inductive Trigger where
  | reset
  | irq
  | nmi
  deriving DecidableEq, Repr

/-- The core raises no exception (R230; spec/93_implementation_defined.md: `fault`: no entry uses
it), so no meaning, operation or step raises a fault and there is no constructor. Safe. -/
inductive Fault where
  deriving DecidableEq, Repr

/-- Why the model gives no meaning (R40). -/
inductive Refusal where
  /-- Raised by an arm of `exec` for an instruction without a meaning yet. No arm raises it. Safe. -/
  | notModelled (mnemonic : String)
  /-- Raised by the meaning of an undocumented opcode: `IllegalOpcode(opcode, at)` (R222). Safe: the
  run stops, and silicon goes on. -/
  | illegalOpcode (opcode : Byte) (address : Word)
  /-- Raised by reset, irq or nmi while the engine is Busy: `BusyTrigger(operation)` (R284). Safe. -/
  | busyTrigger (operation : Trigger)
  /-- Raised by clock, reset, irq or nmi with no bus attached: `NoBus` (R272). Safe. -/
  | noBus
  /-- Raised by ADC and SBC with D = 1 if `Config.decimalMode` were true (R141). Safe. -/
  | decimalMode (opcode : Byte) (address : Word)
  deriving DecidableEq, Repr

/-- The state record (R20, R26, R37 to R42). -/
structure State where
  /-- Accumulator (R21). -/
  a : Byte
  /-- Index register X (R22). -/
  x : Byte
  /-- Index register Y (R23). -/
  y : Byte
  /-- Stack pointer (R24). -/
  sp : Byte
  /-- Program counter (R25). -/
  pc : Word
  /-- Status byte P (R26, R27); its bits are read and written through Machine/Flags.lean. -/
  p : Byte
  /-- Scratch `opcode` (R37). -/
  opcode : Byte
  /-- Scratch `fetched` (R37). -/
  fetched : Byte
  /-- Scratch `addr_abs`, the effective address EA (R37). -/
  addrAbs : Word
  /-- Scratch `addr_rel` (R37). -/
  addrRel : Word
  /-- Scratch `crossed`, the page-cross signal (R37). -/
  crossed : Bool
  /-- Remaining-cycle counter (R38): Idle iff 0 (R281). -/
  remaining : Nat
  /-- Total-cycle counter (R39). -/
  totalCycles : Nat
  /-- The refusal mark (R40). -/
  refused : Option Refusal
  /-- Whether a bus is attached (R41). -/
  busAttached : Bool
  /-- The bytes behind the attached bus (R41, R70). -/
  mem : Memory
  deriving DecidableEq, Repr

/-! One named update per field. Laws/State.lean says what each leaves alone. -/

def State.setA (s : State) (v : Byte) : State := { s with a := v }
def State.setX (s : State) (v : Byte) : State := { s with x := v }
def State.setY (s : State) (v : Byte) : State := { s with y := v }
def State.setSp (s : State) (v : Byte) : State := { s with sp := v }
def State.setPc (s : State) (v : Word) : State := { s with pc := v }
def State.setP (s : State) (v : Byte) : State := { s with p := v }
def State.setOpcode (s : State) (v : Byte) : State := { s with opcode := v }
def State.setFetched (s : State) (v : Byte) : State := { s with fetched := v }
def State.setAddrAbs (s : State) (v : Word) : State := { s with addrAbs := v }
def State.setAddrRel (s : State) (v : Word) : State := { s with addrRel := v }
def State.setCrossed (s : State) (v : Bool) : State := { s with crossed := v }
def State.setRemaining (s : State) (v : Nat) : State := { s with remaining := v }
def State.setTotalCycles (s : State) (v : Nat) : State := { s with totalCycles := v }
def State.setRefused (s : State) (v : Option Refusal) : State := { s with refused := v }
def State.setBusAttached (s : State) (v : Bool) : State := { s with busAttached := v }
def State.setMem (s : State) (v : Memory) : State := { s with mem := v }

/-- State after `construct` (R44, R273): all registers zero but SP = 0xFF, Idle, no bus. -/
def State.construct : State where
  a := 0x00#8
  x := 0x00#8
  y := 0x00#8
  sp := 0xFF#8
  pc := 0x0000#16
  p := 0x00#8
  opcode := 0x00#8
  fetched := 0x00#8
  addrAbs := 0x0000#16
  addrRel := 0x0000#16
  crossed := false
  remaining := 0
  totalCycles := 0
  refused := none
  busAttached := false
  mem := []

/-- The machine right after reset (R45): construct (R44), attach a flat memory that lists nothing
(R70, R272), reset (R270). PC is what the reset vector reads there: two unlisted bytes, 0x0000
(log 1, log 2). Laws/HostOps.lean proves it equal to those three operations. -/
def State.reset : State where
  a := 0x00#8
  x := 0x00#8
  y := 0x00#8
  sp := 0xFD#8
  pc := 0x0000#16
  p := 0x24#8
  opcode := 0x00#8
  fetched := 0x00#8
  addrAbs := 0x0000#16
  addrRel := 0x0000#16
  crossed := false
  remaining := 7
  totalCycles := 0
  refused := none
  busAttached := true
  mem := []

end Sys2Proof.Machine
end

