-- ==== Sys2Proof/Machine/Flags.lean ====
section
/-!
DEFINITION. The flag register P and every flag and result computation of the instructions
(spec/10_state.md R26 to R36, spec/41_arithmetic.md, 42_shift_rotate.md, 43_compare.md).
-/

namespace Sys2Proof.Machine

/-- The eight named bits of P (R26, R27). -/
inductive Flag where
  | c
  | z
  | i
  | d
  | b
  | u
  | v
  | n
  deriving DecidableEq, Repr

/-- Bit positions of P (R27, D1). -/
def Flag.bit : Flag → Nat
  | .c => 0
  | .z => 1
  | .i => 2
  | .d => 3
  | .b => 4
  | .u => 5
  | .v => 6
  | .n => 7

/-- The mask of one flag in P. -/
def Flag.mask (f : Flag) : Byte := 1#8 <<< f.bit

/-- `get_flag(bit)` on a status byte (R36). -/
def getFlag (f : Flag) (p : Byte) : Bool := p.getLsbD f.bit

/-- `set_flag(bit, value)` on a status byte, with no other side effect (R36). -/
def setFlag (f : Flag) (v : Bool) (p : Byte) : Byte :=
  if v then p ||| f.mask else p &&& ~~~f.mask

/-- `P.f` read from the state (R10). -/
def State.flag (s : State) (f : Flag) : Bool := getFlag f s.p

/-- `P.f <- v` (R10). -/
def State.setFlag (s : State) (f : Flag) (v : Bool) : State := s.setP (Machine.setFlag f v s.p)

/-- `SetZN(v)` on a status byte: Z iff v = 0, N is bit 7 of v (R10). -/
def setZN (v : Byte) (p : Byte) : Byte := setFlag .n v.msb (setFlag .z (v == 0x00#8) p)

/-- `SetZN(v)` (R10). -/
def State.setZN (s : State) (v : Byte) : State := s.setP (Machine.setZN v s.p)

/-! ## Add and subtract (R142, R143) -/

/-- `sum <- A + m + P.C`, a natural number 0 to 511 (R142). -/
def addSum (a m : Byte) (carry : Bool) : Nat := a.toNat + m.toNat + carry.toNat

/-- `r <- sum & 0xFF` (R142). -/
def addResult (a m : Byte) (carry : Bool) : Byte := BitVec.ofNat 8 (addSum a m carry)

/-- `P.C <- (sum > 0xFF)` (R142). -/
def addCarry (a m : Byte) (carry : Bool) : Bool := decide (addSum a m carry > 0xFF)

/-- `P.V <- ((~(A ^ m)) & (A ^ r))[7]` (R142). -/
def addOverflow (a m : Byte) (carry : Bool) : Bool :=
  (~~~(a ^^^ m) &&& (a ^^^ addResult a m carry)).msb

/-- The status byte after adding `m` to `a` with `carry` (R142): C, V, Z and N written. -/
def addFlags (a m : Byte) (carry : Bool) (p : Byte) : Byte :=
  setZN (addResult a m carry) (setFlag .v (addOverflow a m carry) (setFlag .c (addCarry a m carry) p))

/-- SBC adds the complement of its operand (R143). -/
def subtrahend (m : Byte) : Byte := m ^^^ 0xFF#8

/-! ## Bit test and compare (R147, R170) -/

/-- The status byte after BIT: Z from `A & m`, V from `m[6]`, N from `m[7]` (R147). -/
def bitFlags (a m : Byte) (p : Byte) : Byte :=
  setFlag .n (m.getLsbD 7) (setFlag .v (m.getLsbD 6) (setFlag .z ((a &&& m) == 0x00#8) p))

/-- The status byte after comparing `r` with `m`: C iff r >= m unsigned, Z iff equal, N is bit 7 of
the difference (R170 to R172). -/
def compareFlags (r m : Byte) (p : Byte) : Byte :=
  setFlag .n (r - m).msb (setFlag .z (r == m) (setFlag .c (decide (m.toNat ≤ r.toNat)) p))

/-! ## Shifts and rotates (R160 to R163): a result and the bit shifted out -/

/-- ASL's result (R160). -/
def aslResult (m : Byte) : Byte := m <<< 1

/-- LSR's result (R161). -/
def lsrResult (m : Byte) : Byte := m >>> 1

/-- ROL's result: the old carry enters bit 0 (R162). -/
def rolResult (carry : Bool) (m : Byte) : Byte := (m <<< 1) ||| (BitVec.ofBool carry).setWidth 8

/-- ROR's result: the old carry enters bit 7 (R163). -/
def rorResult (carry : Bool) (m : Byte) : Byte :=
  (m >>> 1) ||| ((BitVec.ofBool carry).setWidth 8 <<< 7)

/-- The bit a left shift moves out: `m[7]` (R160, R162). -/
def leftCarry (m : Byte) : Bool := m.getLsbD 7

/-- The bit a right shift moves out: `m[0]` (R161, R163). -/
def rightCarry (m : Byte) : Bool := m.getLsbD 0

/-- The status byte after a shift with result `r` and bit moved out `out`: C, Z and N written. -/
def shiftFlags (r : Byte) (out : Bool) (p : Byte) : Byte := setZN r (setFlag .c out p)

/-! ## Whole-byte copies of P -/

/-- The copy PHP and BRK push: B = 1, U = 1 (R191, R221). -/
def softwarePushedP (p : Byte) : Byte := p ||| 0x30#8

/-- The copy IRQ and NMI push: B = 0, U = 1 (R233). -/
def hardwarePushedP (p : Byte) : Byte := (p &&& 0xEF#8) ||| 0x20#8

/-- What PLP and RTI make of a pulled byte: B cleared, U set (R193, R203). -/
def pulledP (v : Byte) : Byte := (v &&& 0xEF#8) ||| 0x20#8

end Sys2Proof.Machine
end

