-- ==== Sys2Proof/Machine/Memory.lean ====
section
/-!
DEFINITION. The default bus: a flat array of 65,536 bytes, each read returning the last byte written
there (spec/20_memory.md R50 to R55, R70), held as a list in one canonical form.
-/

namespace Sys2Proof.Machine

/-- `MemRead(a, 1)` (R51) on the flat bus. -/
def Memory.read : Memory → Word → Byte
  | [], _ => Config.unlistedByte
  | (k, v) :: rest, a => if k = a.toNat then v else Memory.read rest a

/-- `MemWrite(a, 1, v)` (R52) on the flat bus. Writing what an unlisted address reads as removes
the entry, so that equal memories are equal lists. -/
def Memory.write : Memory → Word → Byte → Memory
  | [], a, v => if v = Config.unlistedByte then [] else [(a.toNat, v)]
  | (k, w) :: rest, a, v =>
    if a.toNat < k then
      if v = Config.unlistedByte then (k, w) :: rest else (a.toNat, v) :: (k, w) :: rest
    else if a.toNat = k then
      if v = Config.unlistedByte then rest else (a.toNat, v) :: rest
    else
      (k, w) :: Memory.write rest a v

/-- `MemRead(a, 2)` (R53): the byte at `a` is the low byte, the byte at `(a + 1) & 0xFFFF` the high. -/
def Memory.readWord (m : Memory) (a : Word) : Word :=
  wordOf (m.read (a + 1)) (m.read a)

/-- The address of a pointer's second byte inside the pointer's own page:
`(ptr & 0xFF00) | ((ptr + 1) & 0x00FF)` (R105). -/
def nextInPage (ptr : Word) : Word := wordOf (hiByte ptr) (loByte ptr + 1)

/-- A 16-bit pointer read whose second byte does not leave the page (R105 to R107). -/
def Memory.readPointer (m : Memory) (ptr : Word) : Word :=
  wordOf (m.read (nextInPage ptr)) (m.read ptr)

/-- The canonical form of a memory: addresses strictly rising and inside the address space (R50), no
entry equal to what an unlisted address reads as. -/
abbrev Memory.wf (m : Memory) : Prop :=
  (m.map Prod.fst).Pairwise (· < ·) ∧ ∀ c ∈ m, c.1 < 65536 ∧ c.2 ≠ Config.unlistedByte

end Sys2Proof.Machine
end

