-- ==== Sys2Proof/Machine/Operands.lean ====
section
/-!
DEFINITION. The addressing-mode resolver and the operand primitives (spec/30_encoding.md R95 to
R110).
-/

namespace Sys2Proof.Machine

/-- The base a page-penalty mode indexes from: the 16-bit operand of ABX and ABY (R103, R104), the
pointer's content of IZY (R107). -/
def indexBase (o : Operand) (s : State) : Word :=
  match o with
  | .abx w => w
  | .aby w => w
  | .izy b => s.mem.readPointer (zext16 b)
  | .imp | .acc | .imm _ | .zp0 _ | .zpx _ | .zpy _ | .abs _ | .ind _ | .izx _ | .rel _ => 0x0000#16

/-- The effective address EA of a mode that has one (R98 to R107), in the state after the opcode
fetch. The modes without an EA leave `addr_abs` as it was. -/
def effAddr (o : Operand) (s : State) : Word :=
  match o with
  | .imm _ => s.pc
  | .zp0 b => zext16 b
  | .zpx b => zext16 (b + s.x)
  | .zpy b => zext16 (b + s.y)
  | .abs w => w
  | .abx w => w + zext16 s.x
  | .aby w => w + zext16 s.y
  | .ind w => if Config.jmpIndirectPageWrap then s.mem.readPointer w else s.mem.readWord w
  | .izx b => s.mem.readPointer (zext16 (b + s.x))
  | .izy b => s.mem.readPointer (zext16 b) + zext16 s.y
  | .imp | .acc | .rel _ => s.addrAbs

/-- The page-cross signal (R95, R103, R104, R107): false but where an indexed sum leaves the page of
its base. -/
def pageCrossed (o : Operand) (s : State) : Bool :=
  match o with
  | .abx _ | .aby _ | .izy _ => !samePage (indexBase o s) (effAddr o s)
  | .imp | .acc | .imm _ | .zp0 _ | .zpx _ | .zpy _ | .abs _ | .ind _ | .izx _ | .rel _ => false

/-- `addr_rel` after the resolver: the sign-extended offset in Relative mode, else unchanged (R108). -/
def relOffset (o : Operand) (s : State) : Word :=
  match o with
  | .rel b => sext16 b
  | .imp | .acc | .imm _ | .zp0 _ | .zpx _ | .zpy _ | .abs _ | .abx _ | .aby _ | .ind _ | .izx _
  | .izy _ => s.addrRel

/-- `Resolve(mode)` (R95): writes `addr_abs`, `addr_rel` and `crossed` and advances PC by the mode's
operand width (R81); nothing else. -/
def resolve (o : Operand) (s : State) : State :=
  (((s.setAddrAbs (effAddr o s)).setAddrRel (relOffset o s)).setCrossed (pageCrossed o s)).setPc
    (s.pc + BitVec.ofNat 16 o.mode.width)

/-- `Operand()` after the resolver (R109): A in Accumulator mode, the operand byte itself in Immediate
mode (R98; log 9), else the byte at EA. -/
def operandByte (o : Operand) (s : State) : Byte :=
  match o with
  | .acc => s.a
  | .imm b => b
  | .zp0 _ | .zpx _ | .zpy _ | .abs _ | .abx _ | .aby _ | .izx _ | .izy _ => s.mem.read s.addrAbs
  | .imp | .ind _ | .rel _ => s.mem.read s.addrAbs

/-- `Operand()`'s scratch write `fetched <- MemRead(EA, 1)`; none in Accumulator mode (R109). -/
def noteFetched (o : Operand) (s : State) : State :=
  match o with
  | .acc => s
  | .imp | .imm _ | .zp0 _ | .zpx _ | .zpy _ | .abs _ | .abx _ | .aby _ | .ind _ | .izx _ | .izy _
  | .rel _ => s.setFetched (operandByte o s)

/-- `WriteBack(v)` (R110): to A in Accumulator mode, else one write at EA. -/
def writeBack (o : Operand) (v : Byte) (s : State) : State :=
  match o with
  | .acc => s.setA v
  | .imp | .imm _ | .zp0 _ | .zpx _ | .zpy _ | .abs _ | .abx _ | .aby _ | .ind _ | .izx _ | .izy _
  | .rel _ => s.setMem (s.mem.write s.addrAbs v)

/-- The operand byte an instruction at the boundary state `s` will use: `Operand()` seen from before
the resolver. Laws/Operands.lean proves it equal to `operandByte` after `resolve`. -/
def operandValue (o : Operand) (s : State) : Byte :=
  match o with
  | .acc => s.a
  | .imm b => b
  | .imp | .zp0 _ | .zpx _ | .zpy _ | .abs _ | .abx _ | .aby _ | .ind _ | .izx _ | .izy _ | .rel _ =>
    s.mem.read (effAddr o s)

end Sys2Proof.Machine
end

