-- ==== Sys2Proof/Machine/Ops.lean ====
section
/-!
DEFINITION. The named operations: the stack protocol (spec/20_memory.md R60, R61), interrupt entry
and the return from it (spec/60_exceptions.md R233, R245), and `Execute` (spec/30_encoding.md R90).
-/

namespace Sys2Proof.Machine

/-! ## The stack protocol -/

/-- The address `STACK_PAGE_BASE + SP` (R59, R60). -/
def stackAddr (sp : Byte) : Word := Config.stackPageBase + zext16 sp

/-- `Push(v)` (R60): write at the stack address, then decrement SP modulo 256. -/
def push (v : Byte) (s : State) : State :=
  (s.setMem (s.mem.write (stackAddr s.sp) v)).setSp (s.sp - 1)

/-- The byte `Pull()` returns (R61): the one at the incremented SP. -/
def pullByte (s : State) : Byte := s.mem.read (stackAddr (s.sp + 1))

/-- `Pull()`'s effect on SP (R61). -/
def pullSp (s : State) : State := s.setSp (s.sp + 1)

/-- Push a 16-bit value, high byte first (R54, R201, R221, R233). -/
def pushWord (w : Word) (s : State) : State := push (loByte w) (push (hiByte w) s)

/-- The 16-bit value two pulls give, low byte first (R202, R203). -/
def pullWord (s : State) : Word := wordOf (pullByte (pullSp s)) (pullByte s)

/-! ## Taking an interrupt and returning from one -/

/-- The entry shared by IRQ, NMI and BRK (R233, R221, R242): push PC high, PC low and the given copy
of P, set I, load PC from the vector. -/
def interruptEntry (vector : Word) (pushedP : Byte) (s : State) : State :=
  let t := (push pushedP (pushWord s.pc s)).setFlag .i true
  t.setPc (t.mem.readWord vector)

/-- `IntEntry(vector, cycles)` of IRQ and NMI (R233). -/
def intEntry (vector : Word) (cycles : Nat) (s : State) : State :=
  (interruptEntry vector (hardwarePushedP s.p) s).setRemaining cycles

/-- RTI's effect (R203, R245): pull P with B cleared and U set, then pull PC. -/
def returnFromInterrupt (s : State) : State :=
  let t := (pullSp s).setP (pulledP (pullByte s))
  (pullSp (pullSp t)).setPc (pullWord t)

/-! ## Execute -/

/-- The opcode fetch (R90): `opcode <- MemRead(PC, 1); PC <- PC + 1`. -/
def fetchOpcode (op : Byte) (s : State) : State := (s.setOpcode op).setPc (s.pc + 1)

/-- The state a handler starts from: after the opcode fetch and the resolver (R90). -/
def resolved (op : Byte) (o : Operand) (s : State) : State := resolve o (fetchOpcode op s)

/-- `c1` (R282): one more cycle iff the page was crossed and the descriptor's `page_penalty` holds. -/
def pageCycles (op : Byte) (r : State) : Nat :=
  if r.crossed && (descriptor op).pagePenalty then 1 else 0

/-- `Execute()` (R90) for a decoded instruction with opcode `op` and operand `o`: opcode fetch,
resolver, the handler `h` with its extra cycles c2, and the cost `base_cycles + c1 + c2` in
`remaining`. The state it is given is the one before the opcode fetch. -/
def executeWith (op : Byte) (o : Operand) (h : State → State × Nat) (s : State) :
    Host.Outcome State Fault Refusal :=
  let r := resolved op o s
  .next ((h r).1.setRemaining ((descriptor op).baseCycles + pageCycles op r + (h r).2))

/-- `Execute()` for a handler with c2 = 0 (R90: every handler but a taken branch). -/
def execute (op : Byte) (o : Operand) (h : State → State) (s : State) :
    Host.Outcome State Fault Refusal :=
  executeWith op o (fun r => (h r, 0)) s

end Sys2Proof.Machine
end

