-- ==== Sys2Proof/Machine/Arithmetic.lean ====
section
/-!
DEFINITION. Arithmetic, logical, increment and decrement instructions (spec/41_arithmetic.md R140 to R153).
A handler runs after the resolver (spec/30_encoding.md R90); a meaning is one row of the table.
-/

namespace Sys2Proof.Machine

/-- Add `m` with carry into A: ADC's body, and SBC's with the complement (R142, R143). D does not enter
it (R141). -/
def addToA (m : Byte) (r : State) : State :=
  (r.setA (addResult r.a m (r.flag .c))).setP (addFlags r.a m (r.flag .c) r.p)

/-- The decimal-mode guard of ADC and SBC (R141): with `DECIMAL_MODE = true` and D = 1 the model
refuses, changing nothing; with the decided value it is transparent. -/
def decimalGuard (op : Byte) (s : State) (run : Host.Outcome State Fault Refusal) :
    Host.Outcome State Fault Refusal :=
  if Config.decimalMode && s.flag .d then .refused (.decimalMode op s.pc) else run

/-- Put a logical result in A and set Z and N from it (R144 to R146). -/
def logicToA (v : Byte) (r : State) : State := (r.setA v).setZN v

/-- ADC (R142): add the operand with carry to A; C, V, Z and N written. -/
def handleAdc (o : Operand) (r : State) : State := addToA (operandByte o r) (noteFetched o r)

/-- 0x61 `ADC ($nn,X)`, IZX (R142). -/
def execAdcIzx (b : Byte) (s : State) : Host.Outcome State Fault Refusal :=
  decimalGuard 0x61#8 s (execute 0x61#8 (.izx b) (handleAdc (.izx b)) s)

/-- 0x65 `ADC $nn`, ZP0 (R142). -/
def execAdcZp0 (b : Byte) (s : State) : Host.Outcome State Fault Refusal :=
  decimalGuard 0x65#8 s (execute 0x65#8 (.zp0 b) (handleAdc (.zp0 b)) s)

/-- 0x69 `ADC #$nn`, IMM (R142). -/
def execAdcImm (b : Byte) (s : State) : Host.Outcome State Fault Refusal :=
  decimalGuard 0x69#8 s (execute 0x69#8 (.imm b) (handleAdc (.imm b)) s)

/-- 0x6D `ADC $nnnn`, ABS (R142). -/
def execAdcAbs (w : Word) (s : State) : Host.Outcome State Fault Refusal :=
  decimalGuard 0x6D#8 s (execute 0x6D#8 (.abs w) (handleAdc (.abs w)) s)

/-- 0x71 `ADC ($nn),Y`, IZY (R142). -/
def execAdcIzy (b : Byte) (s : State) : Host.Outcome State Fault Refusal :=
  decimalGuard 0x71#8 s (execute 0x71#8 (.izy b) (handleAdc (.izy b)) s)

/-- 0x75 `ADC $nn,X`, ZPX (R142). -/
def execAdcZpx (b : Byte) (s : State) : Host.Outcome State Fault Refusal :=
  decimalGuard 0x75#8 s (execute 0x75#8 (.zpx b) (handleAdc (.zpx b)) s)

/-- 0x79 `ADC $nnnn,Y`, ABY (R142). -/
def execAdcAby (w : Word) (s : State) : Host.Outcome State Fault Refusal :=
  decimalGuard 0x79#8 s (execute 0x79#8 (.aby w) (handleAdc (.aby w)) s)

/-- 0x7D `ADC $nnnn,X`, ABX (R142). -/
def execAdcAbx (w : Word) (s : State) : Host.Outcome State Fault Refusal :=
  decimalGuard 0x7D#8 s (execute 0x7D#8 (.abx w) (handleAdc (.abx w)) s)

/-- SBC (R143): ADC's body with the operand complemented. -/
def handleSbc (o : Operand) (r : State) : State :=
  addToA (subtrahend (operandByte o r)) (noteFetched o r)

/-- 0xE1 `SBC ($nn,X)`, IZX (R143). -/
def execSbcIzx (b : Byte) (s : State) : Host.Outcome State Fault Refusal :=
  decimalGuard 0xE1#8 s (execute 0xE1#8 (.izx b) (handleSbc (.izx b)) s)

/-- 0xE5 `SBC $nn`, ZP0 (R143). -/
def execSbcZp0 (b : Byte) (s : State) : Host.Outcome State Fault Refusal :=
  decimalGuard 0xE5#8 s (execute 0xE5#8 (.zp0 b) (handleSbc (.zp0 b)) s)

/-- 0xE9 `SBC #$nn`, IMM (R143). -/
def execSbcImm (b : Byte) (s : State) : Host.Outcome State Fault Refusal :=
  decimalGuard 0xE9#8 s (execute 0xE9#8 (.imm b) (handleSbc (.imm b)) s)

/-- 0xED `SBC $nnnn`, ABS (R143). -/
def execSbcAbs (w : Word) (s : State) : Host.Outcome State Fault Refusal :=
  decimalGuard 0xED#8 s (execute 0xED#8 (.abs w) (handleSbc (.abs w)) s)

/-- 0xF1 `SBC ($nn),Y`, IZY (R143). -/
def execSbcIzy (b : Byte) (s : State) : Host.Outcome State Fault Refusal :=
  decimalGuard 0xF1#8 s (execute 0xF1#8 (.izy b) (handleSbc (.izy b)) s)

/-- 0xF5 `SBC $nn,X`, ZPX (R143). -/
def execSbcZpx (b : Byte) (s : State) : Host.Outcome State Fault Refusal :=
  decimalGuard 0xF5#8 s (execute 0xF5#8 (.zpx b) (handleSbc (.zpx b)) s)

/-- 0xF9 `SBC $nnnn,Y`, ABY (R143). -/
def execSbcAby (w : Word) (s : State) : Host.Outcome State Fault Refusal :=
  decimalGuard 0xF9#8 s (execute 0xF9#8 (.aby w) (handleSbc (.aby w)) s)

/-- 0xFD `SBC $nnnn,X`, ABX (R143). -/
def execSbcAbx (w : Word) (s : State) : Host.Outcome State Fault Refusal :=
  decimalGuard 0xFD#8 s (execute 0xFD#8 (.abx w) (handleSbc (.abx w)) s)

/-- AND (R144): bitwise and into A; Z and N written. -/
def handleAnd (o : Operand) (r : State) : State :=
  logicToA (r.a &&& operandByte o r) (noteFetched o r)

/-- 0x21 `AND ($nn,X)`, IZX (R144). -/
def execAndIzx (b : Byte) (s : State) : Host.Outcome State Fault Refusal :=
  execute 0x21#8 (.izx b) (handleAnd (.izx b)) s

/-- 0x25 `AND $nn`, ZP0 (R144). -/
def execAndZp0 (b : Byte) (s : State) : Host.Outcome State Fault Refusal :=
  execute 0x25#8 (.zp0 b) (handleAnd (.zp0 b)) s

/-- 0x29 `AND #$nn`, IMM (R144). -/
def execAndImm (b : Byte) (s : State) : Host.Outcome State Fault Refusal :=
  execute 0x29#8 (.imm b) (handleAnd (.imm b)) s

/-- 0x2D `AND $nnnn`, ABS (R144). -/
def execAndAbs (w : Word) (s : State) : Host.Outcome State Fault Refusal :=
  execute 0x2D#8 (.abs w) (handleAnd (.abs w)) s

/-- 0x31 `AND ($nn),Y`, IZY (R144). -/
def execAndIzy (b : Byte) (s : State) : Host.Outcome State Fault Refusal :=
  execute 0x31#8 (.izy b) (handleAnd (.izy b)) s

/-- 0x35 `AND $nn,X`, ZPX (R144). -/
def execAndZpx (b : Byte) (s : State) : Host.Outcome State Fault Refusal :=
  execute 0x35#8 (.zpx b) (handleAnd (.zpx b)) s

/-- 0x39 `AND $nnnn,Y`, ABY (R144). -/
def execAndAby (w : Word) (s : State) : Host.Outcome State Fault Refusal :=
  execute 0x39#8 (.aby w) (handleAnd (.aby w)) s

/-- 0x3D `AND $nnnn,X`, ABX (R144). -/
def execAndAbx (w : Word) (s : State) : Host.Outcome State Fault Refusal :=
  execute 0x3D#8 (.abx w) (handleAnd (.abx w)) s

/-- ORA (R145): bitwise or into A; Z and N written. -/
def handleOra (o : Operand) (r : State) : State :=
  logicToA (r.a ||| operandByte o r) (noteFetched o r)

/-- 0x01 `ORA ($nn,X)`, IZX (R145). -/
def execOraIzx (b : Byte) (s : State) : Host.Outcome State Fault Refusal :=
  execute 0x01#8 (.izx b) (handleOra (.izx b)) s

/-- 0x05 `ORA $nn`, ZP0 (R145). -/
def execOraZp0 (b : Byte) (s : State) : Host.Outcome State Fault Refusal :=
  execute 0x05#8 (.zp0 b) (handleOra (.zp0 b)) s

/-- 0x09 `ORA #$nn`, IMM (R145). -/
def execOraImm (b : Byte) (s : State) : Host.Outcome State Fault Refusal :=
  execute 0x09#8 (.imm b) (handleOra (.imm b)) s

/-- 0x0D `ORA $nnnn`, ABS (R145). -/
def execOraAbs (w : Word) (s : State) : Host.Outcome State Fault Refusal :=
  execute 0x0D#8 (.abs w) (handleOra (.abs w)) s

/-- 0x11 `ORA ($nn),Y`, IZY (R145). -/
def execOraIzy (b : Byte) (s : State) : Host.Outcome State Fault Refusal :=
  execute 0x11#8 (.izy b) (handleOra (.izy b)) s

/-- 0x15 `ORA $nn,X`, ZPX (R145). -/
def execOraZpx (b : Byte) (s : State) : Host.Outcome State Fault Refusal :=
  execute 0x15#8 (.zpx b) (handleOra (.zpx b)) s

/-- 0x19 `ORA $nnnn,Y`, ABY (R145). -/
def execOraAby (w : Word) (s : State) : Host.Outcome State Fault Refusal :=
  execute 0x19#8 (.aby w) (handleOra (.aby w)) s

/-- 0x1D `ORA $nnnn,X`, ABX (R145). -/
def execOraAbx (w : Word) (s : State) : Host.Outcome State Fault Refusal :=
  execute 0x1D#8 (.abx w) (handleOra (.abx w)) s

/-- EOR (R146): bitwise exclusive or into A; Z and N written. -/
def handleEor (o : Operand) (r : State) : State :=
  logicToA (r.a ^^^ operandByte o r) (noteFetched o r)

/-- 0x41 `EOR ($nn,X)`, IZX (R146). -/
def execEorIzx (b : Byte) (s : State) : Host.Outcome State Fault Refusal :=
  execute 0x41#8 (.izx b) (handleEor (.izx b)) s

/-- 0x45 `EOR $nn`, ZP0 (R146). -/
def execEorZp0 (b : Byte) (s : State) : Host.Outcome State Fault Refusal :=
  execute 0x45#8 (.zp0 b) (handleEor (.zp0 b)) s

/-- 0x49 `EOR #$nn`, IMM (R146). -/
def execEorImm (b : Byte) (s : State) : Host.Outcome State Fault Refusal :=
  execute 0x49#8 (.imm b) (handleEor (.imm b)) s

/-- 0x4D `EOR $nnnn`, ABS (R146). -/
def execEorAbs (w : Word) (s : State) : Host.Outcome State Fault Refusal :=
  execute 0x4D#8 (.abs w) (handleEor (.abs w)) s

/-- 0x51 `EOR ($nn),Y`, IZY (R146). -/
def execEorIzy (b : Byte) (s : State) : Host.Outcome State Fault Refusal :=
  execute 0x51#8 (.izy b) (handleEor (.izy b)) s

/-- 0x55 `EOR $nn,X`, ZPX (R146). -/
def execEorZpx (b : Byte) (s : State) : Host.Outcome State Fault Refusal :=
  execute 0x55#8 (.zpx b) (handleEor (.zpx b)) s

/-- 0x59 `EOR $nnnn,Y`, ABY (R146). -/
def execEorAby (w : Word) (s : State) : Host.Outcome State Fault Refusal :=
  execute 0x59#8 (.aby w) (handleEor (.aby w)) s

/-- 0x5D `EOR $nnnn,X`, ABX (R146). -/
def execEorAbx (w : Word) (s : State) : Host.Outcome State Fault Refusal :=
  execute 0x5D#8 (.abx w) (handleEor (.abx w)) s

/-- BIT (R147): Z from `A & m`, V from `m[6]`, N from `m[7]`; A unchanged. -/
def handleBit (o : Operand) (r : State) : State :=
  (noteFetched o r).setP (bitFlags r.a (operandByte o r) r.p)

/-- 0x24 `BIT $nn`, ZP0 (R147). -/
def execBitZp0 (b : Byte) (s : State) : Host.Outcome State Fault Refusal :=
  execute 0x24#8 (.zp0 b) (handleBit (.zp0 b)) s

/-- 0x2C `BIT $nnnn`, ABS (R147). -/
def execBitAbs (w : Word) (s : State) : Host.Outcome State Fault Refusal :=
  execute 0x2C#8 (.abs w) (handleBit (.abs w)) s

/-- INC (R148): read the byte at EA, write it + 1 modulo 256, set Z and N from the result. -/
def handleInc (o : Operand) (r : State) : State :=
  (writeBack o (operandByte o r + 1) (noteFetched o r)).setZN (operandByte o r + 1)

/-- 0xE6 `INC $nn`, ZP0 (R148). -/
def execIncZp0 (b : Byte) (s : State) : Host.Outcome State Fault Refusal :=
  execute 0xE6#8 (.zp0 b) (handleInc (.zp0 b)) s

/-- 0xEE `INC $nnnn`, ABS (R148). -/
def execIncAbs (w : Word) (s : State) : Host.Outcome State Fault Refusal :=
  execute 0xEE#8 (.abs w) (handleInc (.abs w)) s

/-- 0xF6 `INC $nn,X`, ZPX (R148). -/
def execIncZpx (b : Byte) (s : State) : Host.Outcome State Fault Refusal :=
  execute 0xF6#8 (.zpx b) (handleInc (.zpx b)) s

/-- 0xFE `INC $nnnn,X`, ABX (R148). -/
def execIncAbx (w : Word) (s : State) : Host.Outcome State Fault Refusal :=
  execute 0xFE#8 (.abx w) (handleInc (.abx w)) s

/-- DEC (R149): read the byte at EA, write it - 1 modulo 256, set Z and N from the result. -/
def handleDec (o : Operand) (r : State) : State :=
  (writeBack o (operandByte o r - 1) (noteFetched o r)).setZN (operandByte o r - 1)

/-- 0xC6 `DEC $nn`, ZP0 (R149). -/
def execDecZp0 (b : Byte) (s : State) : Host.Outcome State Fault Refusal :=
  execute 0xC6#8 (.zp0 b) (handleDec (.zp0 b)) s

/-- 0xCE `DEC $nnnn`, ABS (R149). -/
def execDecAbs (w : Word) (s : State) : Host.Outcome State Fault Refusal :=
  execute 0xCE#8 (.abs w) (handleDec (.abs w)) s

/-- 0xD6 `DEC $nn,X`, ZPX (R149). -/
def execDecZpx (b : Byte) (s : State) : Host.Outcome State Fault Refusal :=
  execute 0xD6#8 (.zpx b) (handleDec (.zpx b)) s

/-- 0xDE `DEC $nnnn,X`, ABX (R149). -/
def execDecAbx (w : Word) (s : State) : Host.Outcome State Fault Refusal :=
  execute 0xDE#8 (.abx w) (handleDec (.abx w)) s

/-- INX (R150): `X <- (X + 1) & 0xFF; SetZN(X)`. -/
def handleInx (r : State) : State := (r.setX (r.x + 1)).setZN (r.x + 1)

/-- 0xE8 `INX`, IMP (R150). -/
def execInx (s : State) : Host.Outcome State Fault Refusal :=
  execute 0xE8#8 .imp handleInx s

/-- INY (R151): `Y <- (Y + 1) & 0xFF; SetZN(Y)`. -/
def handleIny (r : State) : State := (r.setY (r.y + 1)).setZN (r.y + 1)

/-- 0xC8 `INY`, IMP (R151). -/
def execIny (s : State) : Host.Outcome State Fault Refusal :=
  execute 0xC8#8 .imp handleIny s

/-- DEX (R152): `X <- (X - 1) & 0xFF; SetZN(X)`. -/
def handleDex (r : State) : State := (r.setX (r.x - 1)).setZN (r.x - 1)

/-- 0xCA `DEX`, IMP (R152). -/
def execDex (s : State) : Host.Outcome State Fault Refusal :=
  execute 0xCA#8 .imp handleDex s

/-- DEY (R153): `Y <- (Y - 1) & 0xFF; SetZN(Y)`. -/
def handleDey (r : State) : State := (r.setY (r.y - 1)).setZN (r.y - 1)

/-- 0x88 `DEY`, IMP (R153). -/
def execDey (s : State) : Host.Outcome State Fault Refusal :=
  execute 0x88#8 .imp handleDey s

end Sys2Proof.Machine
end

