-- ==== Sys2Proof/Machine/Branch.lean ====
section
/-!
DEFINITION. Conditional branch instructions (spec/44_branch.md R180 to R188).
A handler runs after the resolver (spec/30_encoding.md R90); a meaning is one row of the table.
-/

namespace Sys2Proof.Machine

/-- `Branch(cond)` (R180), after the Relative resolver: when taken, PC moves by `addr_rel` and c2 is 1, or
2 when the target lies in another page than the next instruction. -/
def branch (cond : Bool) (r : State) : State × Nat :=
  if cond then
    (r.setPc (r.pc + r.addrRel), if samePage (r.pc + r.addrRel) r.pc then 1 else 2)
  else (r, 0)

/-- BCC (R181): branch if P.C = 0. -/
def handleBcc (r : State) : State × Nat := branch (!r.flag .c) r

/-- 0x90 `BCC target`, REL (R181). -/
def execBcc (b : Byte) (s : State) : Host.Outcome State Fault Refusal :=
  executeWith 0x90#8 (.rel b) handleBcc s

/-- BCS (R182): branch if P.C = 1. -/
def handleBcs (r : State) : State × Nat := branch (r.flag .c) r

/-- 0xB0 `BCS target`, REL (R182). -/
def execBcs (b : Byte) (s : State) : Host.Outcome State Fault Refusal :=
  executeWith 0xB0#8 (.rel b) handleBcs s

/-- BEQ (R183): branch if P.Z = 1. -/
def handleBeq (r : State) : State × Nat := branch (r.flag .z) r

/-- 0xF0 `BEQ target`, REL (R183). -/
def execBeq (b : Byte) (s : State) : Host.Outcome State Fault Refusal :=
  executeWith 0xF0#8 (.rel b) handleBeq s

/-- BNE (R184): branch if P.Z = 0. -/
def handleBne (r : State) : State × Nat := branch (!r.flag .z) r

/-- 0xD0 `BNE target`, REL (R184). -/
def execBne (b : Byte) (s : State) : Host.Outcome State Fault Refusal :=
  executeWith 0xD0#8 (.rel b) handleBne s

/-- BMI (R185): branch if P.N = 1. -/
def handleBmi (r : State) : State × Nat := branch (r.flag .n) r

/-- 0x30 `BMI target`, REL (R185). -/
def execBmi (b : Byte) (s : State) : Host.Outcome State Fault Refusal :=
  executeWith 0x30#8 (.rel b) handleBmi s

/-- BPL (R186): branch if P.N = 0. -/
def handleBpl (r : State) : State × Nat := branch (!r.flag .n) r

/-- 0x10 `BPL target`, REL (R186). -/
def execBpl (b : Byte) (s : State) : Host.Outcome State Fault Refusal :=
  executeWith 0x10#8 (.rel b) handleBpl s

/-- BVC (R187): branch if P.V = 0. -/
def handleBvc (r : State) : State × Nat := branch (!r.flag .v) r

/-- 0x50 `BVC target`, REL (R187). -/
def execBvc (b : Byte) (s : State) : Host.Outcome State Fault Refusal :=
  executeWith 0x50#8 (.rel b) handleBvc s

/-- BVS (R188): branch if P.V = 1. -/
def handleBvs (r : State) : State × Nat := branch (r.flag .v) r

/-- 0x70 `BVS target`, REL (R188). -/
def execBvs (b : Byte) (s : State) : Host.Outcome State Fault Refusal :=
  executeWith 0x70#8 (.rel b) handleBvs s

end Sys2Proof.Machine
end

