-- ==== Sys2Proof/Machine/Compare.lean ====
section
/-!
DEFINITION. Compare instructions (spec/43_compare.md R170 to R172).
A handler runs after the resolver (spec/30_encoding.md R90); a meaning is one row of the table.
-/

namespace Sys2Proof.Machine

/-- CMP (R170): C, Z and N from comparing A with the operand; no register is written. -/
def handleCmp (o : Operand) (r : State) : State :=
  (noteFetched o r).setP (compareFlags r.a (operandByte o r) r.p)

/-- 0xC1 `CMP ($nn,X)`, IZX (R170). -/
def execCmpIzx (b : Byte) (s : State) : Host.Outcome State Fault Refusal :=
  execute 0xC1#8 (.izx b) (handleCmp (.izx b)) s

/-- 0xC5 `CMP $nn`, ZP0 (R170). -/
def execCmpZp0 (b : Byte) (s : State) : Host.Outcome State Fault Refusal :=
  execute 0xC5#8 (.zp0 b) (handleCmp (.zp0 b)) s

/-- 0xC9 `CMP #$nn`, IMM (R170). -/
def execCmpImm (b : Byte) (s : State) : Host.Outcome State Fault Refusal :=
  execute 0xC9#8 (.imm b) (handleCmp (.imm b)) s

/-- 0xCD `CMP $nnnn`, ABS (R170). -/
def execCmpAbs (w : Word) (s : State) : Host.Outcome State Fault Refusal :=
  execute 0xCD#8 (.abs w) (handleCmp (.abs w)) s

/-- 0xD1 `CMP ($nn),Y`, IZY (R170). -/
def execCmpIzy (b : Byte) (s : State) : Host.Outcome State Fault Refusal :=
  execute 0xD1#8 (.izy b) (handleCmp (.izy b)) s

/-- 0xD5 `CMP $nn,X`, ZPX (R170). -/
def execCmpZpx (b : Byte) (s : State) : Host.Outcome State Fault Refusal :=
  execute 0xD5#8 (.zpx b) (handleCmp (.zpx b)) s

/-- 0xD9 `CMP $nnnn,Y`, ABY (R170). -/
def execCmpAby (w : Word) (s : State) : Host.Outcome State Fault Refusal :=
  execute 0xD9#8 (.aby w) (handleCmp (.aby w)) s

/-- 0xDD `CMP $nnnn,X`, ABX (R170). -/
def execCmpAbx (w : Word) (s : State) : Host.Outcome State Fault Refusal :=
  execute 0xDD#8 (.abx w) (handleCmp (.abx w)) s

/-- CPX (R171): C, Z and N from comparing X with the operand; no register is written. -/
def handleCpx (o : Operand) (r : State) : State :=
  (noteFetched o r).setP (compareFlags r.x (operandByte o r) r.p)

/-- 0xE0 `CPX #$nn`, IMM (R171). -/
def execCpxImm (b : Byte) (s : State) : Host.Outcome State Fault Refusal :=
  execute 0xE0#8 (.imm b) (handleCpx (.imm b)) s

/-- 0xE4 `CPX $nn`, ZP0 (R171). -/
def execCpxZp0 (b : Byte) (s : State) : Host.Outcome State Fault Refusal :=
  execute 0xE4#8 (.zp0 b) (handleCpx (.zp0 b)) s

/-- 0xEC `CPX $nnnn`, ABS (R171). -/
def execCpxAbs (w : Word) (s : State) : Host.Outcome State Fault Refusal :=
  execute 0xEC#8 (.abs w) (handleCpx (.abs w)) s

/-- CPY (R172): C, Z and N from comparing Y with the operand; no register is written. -/
def handleCpy (o : Operand) (r : State) : State :=
  (noteFetched o r).setP (compareFlags r.y (operandByte o r) r.p)

/-- 0xC0 `CPY #$nn`, IMM (R172). -/
def execCpyImm (b : Byte) (s : State) : Host.Outcome State Fault Refusal :=
  execute 0xC0#8 (.imm b) (handleCpy (.imm b)) s

/-- 0xC4 `CPY $nn`, ZP0 (R172). -/
def execCpyZp0 (b : Byte) (s : State) : Host.Outcome State Fault Refusal :=
  execute 0xC4#8 (.zp0 b) (handleCpy (.zp0 b)) s

/-- 0xCC `CPY $nnnn`, ABS (R172). -/
def execCpyAbs (w : Word) (s : State) : Host.Outcome State Fault Refusal :=
  execute 0xCC#8 (.abs w) (handleCpy (.abs w)) s

end Sys2Proof.Machine
end

