-- ==== Sys2Proof/Machine/FlagOps.lean ====
section
/-!
DEFINITION. Flag set and clear instructions (spec/47_flag_ops.md R210 to R216).
A handler runs after the resolver (spec/30_encoding.md R90); a meaning is one row of the table.
-/

namespace Sys2Proof.Machine

/-- CLC (R210): `P.C <- 0`. -/
def handleClc (r : State) : State := r.setFlag .c false

/-- 0x18 `CLC`, IMP (R210). -/
def execClc (s : State) : Host.Outcome State Fault Refusal :=
  execute 0x18#8 .imp handleClc s

/-- CLD (R211): `P.D <- 0`. -/
def handleCld (r : State) : State := r.setFlag .d false

/-- 0xD8 `CLD`, IMP (R211). -/
def execCld (s : State) : Host.Outcome State Fault Refusal :=
  execute 0xD8#8 .imp handleCld s

/-- CLI (R212): `P.I <- 0`. -/
def handleCli (r : State) : State := r.setFlag .i false

/-- 0x58 `CLI`, IMP (R212). -/
def execCli (s : State) : Host.Outcome State Fault Refusal :=
  execute 0x58#8 .imp handleCli s

/-- CLV (R213): `P.V <- 0`. -/
def handleClv (r : State) : State := r.setFlag .v false

/-- 0xB8 `CLV`, IMP (R213). -/
def execClv (s : State) : Host.Outcome State Fault Refusal :=
  execute 0xB8#8 .imp handleClv s

/-- SEC (R214): `P.C <- 1`. -/
def handleSec (r : State) : State := r.setFlag .c true

/-- 0x38 `SEC`, IMP (R214). -/
def execSec (s : State) : Host.Outcome State Fault Refusal :=
  execute 0x38#8 .imp handleSec s

/-- SED (R215): `P.D <- 1`. -/
def handleSed (r : State) : State := r.setFlag .d true

/-- 0xF8 `SED`, IMP (R215). -/
def execSed (s : State) : Host.Outcome State Fault Refusal :=
  execute 0xF8#8 .imp handleSed s

/-- SEI (R216): `P.I <- 1`. -/
def handleSei (r : State) : State := r.setFlag .i true

/-- 0x78 `SEI`, IMP (R216). -/
def execSei (s : State) : Host.Outcome State Fault Refusal :=
  execute 0x78#8 .imp handleSei s

end Sys2Proof.Machine
end

