-- ==== Sys2Proof/Machine/Jump.lean ====
section
/-!
DEFINITION. Jump, subroutine and return instructions (spec/46_jump_subroutine.md R200 to R203).
A handler runs after the resolver (spec/30_encoding.md R90); a meaning is one row of the table.
-/

namespace Sys2Proof.Machine

/-- JMP (R200): `PC <- EA`. -/
def handleJmp (r : State) : State := r.setPc r.addrAbs

/-- 0x4C `JMP $nnnn`, ABS (R200). -/
def execJmpAbs (w : Word) (s : State) : Host.Outcome State Fault Refusal :=
  execute 0x4C#8 (.abs w) handleJmp s

/-- 0x6C `JMP ($nnnn)`, IND (R200). -/
def execJmpInd (w : Word) (s : State) : Host.Outcome State Fault Refusal :=
  execute 0x6C#8 (.ind w) handleJmp s

/-- JSR (R201): push the address of its own last byte, high byte first, then `PC <- EA`. -/
def handleJsr (r : State) : State := (pushWord (r.pc - 1) r).setPc r.addrAbs

/-- 0x20 `JSR $nnnn`, ABS (R201). -/
def execJsr (w : Word) (s : State) : Host.Outcome State Fault Refusal :=
  execute 0x20#8 (.abs w) handleJsr s

/-- RTS (R202): pull low, pull high, `PC <- hi:lo + 1`. -/
def handleRts (r : State) : State := (pullSp (pullSp r)).setPc (pullWord r + 1)

/-- 0x60 `RTS`, IMP (R202). -/
def execRts (s : State) : Host.Outcome State Fault Refusal :=
  execute 0x60#8 .imp handleRts s

/-- RTI (R203): pull P, then PC with no + 1. -/
def handleRti (r : State) : State := returnFromInterrupt r

/-- 0x40 `RTI`, IMP (R203). -/
def execRti (s : State) : Host.Outcome State Fault Refusal :=
  execute 0x40#8 .imp handleRti s

end Sys2Proof.Machine
end

