-- ==== Sys2Proof/Machine/LoadStore.lean ====
section
/-!
DEFINITION. Load, store and register-transfer instructions (spec/40_load_store.md R120 to R129).
A handler runs after the resolver (spec/30_encoding.md R90); a meaning is one row of the table.
-/

namespace Sys2Proof.Machine

/-- LDA (R120): `m <- Operand(); A <- m; SetZN(m)`. -/
def handleLda (o : Operand) (r : State) : State :=
  ((noteFetched o r).setA (operandByte o r)).setZN (operandByte o r)

/-- 0xA1 `LDA ($nn,X)`, IZX (R120). -/
def execLdaIzx (b : Byte) (s : State) : Host.Outcome State Fault Refusal :=
  execute 0xA1#8 (.izx b) (handleLda (.izx b)) s

/-- 0xA5 `LDA $nn`, ZP0 (R120). -/
def execLdaZp0 (b : Byte) (s : State) : Host.Outcome State Fault Refusal :=
  execute 0xA5#8 (.zp0 b) (handleLda (.zp0 b)) s

/-- 0xA9 `LDA #$nn`, IMM (R120). -/
def execLdaImm (b : Byte) (s : State) : Host.Outcome State Fault Refusal :=
  execute 0xA9#8 (.imm b) (handleLda (.imm b)) s

/-- 0xAD `LDA $nnnn`, ABS (R120). -/
def execLdaAbs (w : Word) (s : State) : Host.Outcome State Fault Refusal :=
  execute 0xAD#8 (.abs w) (handleLda (.abs w)) s

/-- 0xB1 `LDA ($nn),Y`, IZY (R120). -/
def execLdaIzy (b : Byte) (s : State) : Host.Outcome State Fault Refusal :=
  execute 0xB1#8 (.izy b) (handleLda (.izy b)) s

/-- 0xB5 `LDA $nn,X`, ZPX (R120). -/
def execLdaZpx (b : Byte) (s : State) : Host.Outcome State Fault Refusal :=
  execute 0xB5#8 (.zpx b) (handleLda (.zpx b)) s

/-- 0xB9 `LDA $nnnn,Y`, ABY (R120). -/
def execLdaAby (w : Word) (s : State) : Host.Outcome State Fault Refusal :=
  execute 0xB9#8 (.aby w) (handleLda (.aby w)) s

/-- 0xBD `LDA $nnnn,X`, ABX (R120). -/
def execLdaAbx (w : Word) (s : State) : Host.Outcome State Fault Refusal :=
  execute 0xBD#8 (.abx w) (handleLda (.abx w)) s

/-- LDX (R121): `m <- Operand(); X <- m; SetZN(m)`. -/
def handleLdx (o : Operand) (r : State) : State :=
  ((noteFetched o r).setX (operandByte o r)).setZN (operandByte o r)

/-- 0xA2 `LDX #$nn`, IMM (R121). -/
def execLdxImm (b : Byte) (s : State) : Host.Outcome State Fault Refusal :=
  execute 0xA2#8 (.imm b) (handleLdx (.imm b)) s

/-- 0xA6 `LDX $nn`, ZP0 (R121). -/
def execLdxZp0 (b : Byte) (s : State) : Host.Outcome State Fault Refusal :=
  execute 0xA6#8 (.zp0 b) (handleLdx (.zp0 b)) s

/-- 0xAE `LDX $nnnn`, ABS (R121). -/
def execLdxAbs (w : Word) (s : State) : Host.Outcome State Fault Refusal :=
  execute 0xAE#8 (.abs w) (handleLdx (.abs w)) s

/-- 0xB6 `LDX $nn,Y`, ZPY (R121). -/
def execLdxZpy (b : Byte) (s : State) : Host.Outcome State Fault Refusal :=
  execute 0xB6#8 (.zpy b) (handleLdx (.zpy b)) s

/-- 0xBE `LDX $nnnn,Y`, ABY (R121). -/
def execLdxAby (w : Word) (s : State) : Host.Outcome State Fault Refusal :=
  execute 0xBE#8 (.aby w) (handleLdx (.aby w)) s

/-- LDY (R122): `m <- Operand(); Y <- m; SetZN(m)`. -/
def handleLdy (o : Operand) (r : State) : State :=
  ((noteFetched o r).setY (operandByte o r)).setZN (operandByte o r)

/-- 0xA0 `LDY #$nn`, IMM (R122). -/
def execLdyImm (b : Byte) (s : State) : Host.Outcome State Fault Refusal :=
  execute 0xA0#8 (.imm b) (handleLdy (.imm b)) s

/-- 0xA4 `LDY $nn`, ZP0 (R122). -/
def execLdyZp0 (b : Byte) (s : State) : Host.Outcome State Fault Refusal :=
  execute 0xA4#8 (.zp0 b) (handleLdy (.zp0 b)) s

/-- 0xAC `LDY $nnnn`, ABS (R122). -/
def execLdyAbs (w : Word) (s : State) : Host.Outcome State Fault Refusal :=
  execute 0xAC#8 (.abs w) (handleLdy (.abs w)) s

/-- 0xB4 `LDY $nn,X`, ZPX (R122). -/
def execLdyZpx (b : Byte) (s : State) : Host.Outcome State Fault Refusal :=
  execute 0xB4#8 (.zpx b) (handleLdy (.zpx b)) s

/-- 0xBC `LDY $nnnn,X`, ABX (R122). -/
def execLdyAbx (w : Word) (s : State) : Host.Outcome State Fault Refusal :=
  execute 0xBC#8 (.abx w) (handleLdy (.abx w)) s

/-- STA (R123): `MemWrite(EA, 1, A)`; nothing is read at EA. -/
def handleSta (r : State) : State := r.setMem (r.mem.write r.addrAbs r.a)

/-- 0x81 `STA ($nn,X)`, IZX (R123). -/
def execStaIzx (b : Byte) (s : State) : Host.Outcome State Fault Refusal :=
  execute 0x81#8 (.izx b) handleSta s

/-- 0x85 `STA $nn`, ZP0 (R123). -/
def execStaZp0 (b : Byte) (s : State) : Host.Outcome State Fault Refusal :=
  execute 0x85#8 (.zp0 b) handleSta s

/-- 0x8D `STA $nnnn`, ABS (R123). -/
def execStaAbs (w : Word) (s : State) : Host.Outcome State Fault Refusal :=
  execute 0x8D#8 (.abs w) handleSta s

/-- 0x91 `STA ($nn),Y`, IZY (R123). -/
def execStaIzy (b : Byte) (s : State) : Host.Outcome State Fault Refusal :=
  execute 0x91#8 (.izy b) handleSta s

/-- 0x95 `STA $nn,X`, ZPX (R123). -/
def execStaZpx (b : Byte) (s : State) : Host.Outcome State Fault Refusal :=
  execute 0x95#8 (.zpx b) handleSta s

/-- 0x99 `STA $nnnn,Y`, ABY (R123). -/
def execStaAby (w : Word) (s : State) : Host.Outcome State Fault Refusal :=
  execute 0x99#8 (.aby w) handleSta s

/-- 0x9D `STA $nnnn,X`, ABX (R123). -/
def execStaAbx (w : Word) (s : State) : Host.Outcome State Fault Refusal :=
  execute 0x9D#8 (.abx w) handleSta s

/-- STX (R124): `MemWrite(EA, 1, X)`; nothing is read at EA. -/
def handleStx (r : State) : State := r.setMem (r.mem.write r.addrAbs r.x)

/-- 0x86 `STX $nn`, ZP0 (R124). -/
def execStxZp0 (b : Byte) (s : State) : Host.Outcome State Fault Refusal :=
  execute 0x86#8 (.zp0 b) handleStx s

/-- 0x8E `STX $nnnn`, ABS (R124). -/
def execStxAbs (w : Word) (s : State) : Host.Outcome State Fault Refusal :=
  execute 0x8E#8 (.abs w) handleStx s

/-- 0x96 `STX $nn,Y`, ZPY (R124). -/
def execStxZpy (b : Byte) (s : State) : Host.Outcome State Fault Refusal :=
  execute 0x96#8 (.zpy b) handleStx s

/-- STY (R125): `MemWrite(EA, 1, Y)`; nothing is read at EA. -/
def handleSty (r : State) : State := r.setMem (r.mem.write r.addrAbs r.y)

/-- 0x84 `STY $nn`, ZP0 (R125). -/
def execStyZp0 (b : Byte) (s : State) : Host.Outcome State Fault Refusal :=
  execute 0x84#8 (.zp0 b) handleSty s

/-- 0x8C `STY $nnnn`, ABS (R125). -/
def execStyAbs (w : Word) (s : State) : Host.Outcome State Fault Refusal :=
  execute 0x8C#8 (.abs w) handleSty s

/-- 0x94 `STY $nn,X`, ZPX (R125). -/
def execStyZpx (b : Byte) (s : State) : Host.Outcome State Fault Refusal :=
  execute 0x94#8 (.zpx b) handleSty s

/-- TAX (R126): `X <- A; SetZN(X)`. -/
def handleTax (r : State) : State := (r.setX r.a).setZN r.a

/-- 0xAA `TAX`, IMP (R126). -/
def execTax (s : State) : Host.Outcome State Fault Refusal :=
  execute 0xAA#8 .imp handleTax s

/-- TAY (R127): `Y <- A; SetZN(Y)`. -/
def handleTay (r : State) : State := (r.setY r.a).setZN r.a

/-- 0xA8 `TAY`, IMP (R127). -/
def execTay (s : State) : Host.Outcome State Fault Refusal :=
  execute 0xA8#8 .imp handleTay s

/-- TXA (R128): `A <- X; SetZN(A)`. -/
def handleTxa (r : State) : State := (r.setA r.x).setZN r.x

/-- 0x8A `TXA`, IMP (R128). -/
def execTxa (s : State) : Host.Outcome State Fault Refusal :=
  execute 0x8A#8 .imp handleTxa s

/-- TYA (R129): `A <- Y; SetZN(A)`. -/
def handleTya (r : State) : State := (r.setA r.y).setZN r.y

/-- 0x98 `TYA`, IMP (R129). -/
def execTya (s : State) : Host.Outcome State Fault Refusal :=
  execute 0x98#8 .imp handleTya s

end Sys2Proof.Machine
end

