-- ==== Sys2Proof/Machine/Misc.lean ====
section
/-!
DEFINITION. No-op, software break and the undocumented opcodes (spec/48_nop_break_illegal.md R220 to R222).
A handler runs after the resolver (spec/30_encoding.md R90); a meaning is one row of the table.
-/

namespace Sys2Proof.Machine

/-- NOP (R220): nothing. -/
def handleNop (r : State) : State := r

/-- 0xEA `NOP`, IMP (R220). -/
def execNop (s : State) : Host.Outcome State Fault Refusal :=
  execute 0xEA#8 .imp handleNop s

/-- BRK (R221): skip the padding byte, which is not read, then enter through the IRQ vector with B and U
set in the pushed copy of P (R242). -/
def handleBrk (r : State) : State :=
  interruptEntry Config.irqVector (softwarePushedP r.p) (r.setPc (r.pc + 1))

/-- 0x00 `BRK`, IMP (R221). -/
def execBrk (s : State) : Host.Outcome State Fault Refusal :=
  execute 0x00#8 .imp handleBrk s

/-- An undocumented opcode (R222): `raise Refuse(IllegalOpcode(opcode, at))` with PC back at the
opcode's address and nothing else changed (log 5). -/
def execUndocumented (op : Byte) (s : State) : Host.Outcome State Fault Refusal :=
  .refused (.illegalOpcode op s.pc)

end Sys2Proof.Machine
end

