-- ==== Sys2Proof/Machine/ShiftRotate.lean ====
section
/-!
DEFINITION. Shift and rotate instructions (spec/42_shift_rotate.md R160 to R163).
A handler runs after the resolver (spec/30_encoding.md R90); a meaning is one row of the table.
-/

namespace Sys2Proof.Machine

/-- The common end of the four: write the result back (R110), then C from the bit moved out and Z and N
from the result. -/
def shiftWith (o : Operand) (v : Byte) (out : Bool) (r : State) : State :=
  (writeBack o v (noteFetched o r)).setP (shiftFlags v out r.p)

/-- ASL (R160): arithmetic shift left; bit 7 to C. -/
def handleAsl (o : Operand) (r : State) : State :=
  shiftWith o (aslResult (operandByte o r)) (leftCarry (operandByte o r)) r

/-- 0x06 `ASL $nn`, ZP0 (R160). -/
def execAslZp0 (b : Byte) (s : State) : Host.Outcome State Fault Refusal :=
  execute 0x06#8 (.zp0 b) (handleAsl (.zp0 b)) s

/-- 0x0A `ASL A`, ACC (R160). -/
def execAslAcc (s : State) : Host.Outcome State Fault Refusal :=
  execute 0x0A#8 .acc (handleAsl .acc) s

/-- 0x0E `ASL $nnnn`, ABS (R160). -/
def execAslAbs (w : Word) (s : State) : Host.Outcome State Fault Refusal :=
  execute 0x0E#8 (.abs w) (handleAsl (.abs w)) s

/-- 0x16 `ASL $nn,X`, ZPX (R160). -/
def execAslZpx (b : Byte) (s : State) : Host.Outcome State Fault Refusal :=
  execute 0x16#8 (.zpx b) (handleAsl (.zpx b)) s

/-- 0x1E `ASL $nnnn,X`, ABX (R160). -/
def execAslAbx (w : Word) (s : State) : Host.Outcome State Fault Refusal :=
  execute 0x1E#8 (.abx w) (handleAsl (.abx w)) s

/-- LSR (R161): logical shift right; bit 0 to C. -/
def handleLsr (o : Operand) (r : State) : State :=
  shiftWith o (lsrResult (operandByte o r)) (rightCarry (operandByte o r)) r

/-- 0x46 `LSR $nn`, ZP0 (R161). -/
def execLsrZp0 (b : Byte) (s : State) : Host.Outcome State Fault Refusal :=
  execute 0x46#8 (.zp0 b) (handleLsr (.zp0 b)) s

/-- 0x4A `LSR A`, ACC (R161). -/
def execLsrAcc (s : State) : Host.Outcome State Fault Refusal :=
  execute 0x4A#8 .acc (handleLsr .acc) s

/-- 0x4E `LSR $nnnn`, ABS (R161). -/
def execLsrAbs (w : Word) (s : State) : Host.Outcome State Fault Refusal :=
  execute 0x4E#8 (.abs w) (handleLsr (.abs w)) s

/-- 0x56 `LSR $nn,X`, ZPX (R161). -/
def execLsrZpx (b : Byte) (s : State) : Host.Outcome State Fault Refusal :=
  execute 0x56#8 (.zpx b) (handleLsr (.zpx b)) s

/-- 0x5E `LSR $nnnn,X`, ABX (R161). -/
def execLsrAbx (w : Word) (s : State) : Host.Outcome State Fault Refusal :=
  execute 0x5E#8 (.abx w) (handleLsr (.abx w)) s

/-- ROL (R162): rotate left through C. -/
def handleRol (o : Operand) (r : State) : State :=
  shiftWith o (rolResult (r.flag .c) (operandByte o r)) (leftCarry (operandByte o r)) r

/-- 0x26 `ROL $nn`, ZP0 (R162). -/
def execRolZp0 (b : Byte) (s : State) : Host.Outcome State Fault Refusal :=
  execute 0x26#8 (.zp0 b) (handleRol (.zp0 b)) s

/-- 0x2A `ROL A`, ACC (R162). -/
def execRolAcc (s : State) : Host.Outcome State Fault Refusal :=
  execute 0x2A#8 .acc (handleRol .acc) s

/-- 0x2E `ROL $nnnn`, ABS (R162). -/
def execRolAbs (w : Word) (s : State) : Host.Outcome State Fault Refusal :=
  execute 0x2E#8 (.abs w) (handleRol (.abs w)) s

/-- 0x36 `ROL $nn,X`, ZPX (R162). -/
def execRolZpx (b : Byte) (s : State) : Host.Outcome State Fault Refusal :=
  execute 0x36#8 (.zpx b) (handleRol (.zpx b)) s

/-- 0x3E `ROL $nnnn,X`, ABX (R162). -/
def execRolAbx (w : Word) (s : State) : Host.Outcome State Fault Refusal :=
  execute 0x3E#8 (.abx w) (handleRol (.abx w)) s

/-- ROR (R163): rotate right through C. -/
def handleRor (o : Operand) (r : State) : State :=
  shiftWith o (rorResult (r.flag .c) (operandByte o r)) (rightCarry (operandByte o r)) r

/-- 0x66 `ROR $nn`, ZP0 (R163). -/
def execRorZp0 (b : Byte) (s : State) : Host.Outcome State Fault Refusal :=
  execute 0x66#8 (.zp0 b) (handleRor (.zp0 b)) s

/-- 0x6A `ROR A`, ACC (R163). -/
def execRorAcc (s : State) : Host.Outcome State Fault Refusal :=
  execute 0x6A#8 .acc (handleRor .acc) s

/-- 0x6E `ROR $nnnn`, ABS (R163). -/
def execRorAbs (w : Word) (s : State) : Host.Outcome State Fault Refusal :=
  execute 0x6E#8 (.abs w) (handleRor (.abs w)) s

/-- 0x76 `ROR $nn,X`, ZPX (R163). -/
def execRorZpx (b : Byte) (s : State) : Host.Outcome State Fault Refusal :=
  execute 0x76#8 (.zpx b) (handleRor (.zpx b)) s

/-- 0x7E `ROR $nnnn,X`, ABX (R163). -/
def execRorAbx (w : Word) (s : State) : Host.Outcome State Fault Refusal :=
  execute 0x7E#8 (.abx w) (handleRor (.abx w)) s

end Sys2Proof.Machine
end

