-- ==== Sys2Proof/Machine/Stack.lean ====
section
/-!
DEFINITION. Stack instructions (spec/45_stack.md R190 to R195).
A handler runs after the resolver (spec/30_encoding.md R90); a meaning is one row of the table.
-/

namespace Sys2Proof.Machine

/-- PHA (R190): `Push(A)`. -/
def handlePha (r : State) : State := push r.a r

/-- 0x48 `PHA`, IMP (R190). -/
def execPha (s : State) : Host.Outcome State Fault Refusal :=
  execute 0x48#8 .imp handlePha s

/-- PHP (R191): `Push(P | 0x30)`; P itself is unchanged. -/
def handlePhp (r : State) : State := push (softwarePushedP r.p) r

/-- 0x08 `PHP`, IMP (R191). -/
def execPhp (s : State) : Host.Outcome State Fault Refusal :=
  execute 0x08#8 .imp handlePhp s

/-- PLA (R192): `v <- Pull(); A <- v; SetZN(v)`. -/
def handlePla (r : State) : State := ((pullSp r).setA (pullByte r)).setZN (pullByte r)

/-- 0x68 `PLA`, IMP (R192). -/
def execPla (s : State) : Host.Outcome State Fault Refusal :=
  execute 0x68#8 .imp handlePla s

/-- PLP (R193): `v <- Pull(); P <- (v & 0xEF) | 0x20`. -/
def handlePlp (r : State) : State := (pullSp r).setP (pulledP (pullByte r))

/-- 0x28 `PLP`, IMP (R193). -/
def execPlp (s : State) : Host.Outcome State Fault Refusal :=
  execute 0x28#8 .imp handlePlp s

/-- TSX (R194): `X <- SP; SetZN(X)`. -/
def handleTsx (r : State) : State := (r.setX r.sp).setZN r.sp

/-- 0xBA `TSX`, IMP (R194). -/
def execTsx (s : State) : Host.Outcome State Fault Refusal :=
  execute 0xBA#8 .imp handleTsx s

/-- TXS (R195): `SP <- X`; no flag is written. -/
def handleTxs (r : State) : State := r.setSp r.x

/-- 0x9A `TXS`, IMP (R195). -/
def execTxs (s : State) : Host.Outcome State Fault Refusal :=
  execute 0x9A#8 .imp handleTxs s

end Sys2Proof.Machine
end

