-- ==== Sys2Proof/Machine/HostOps.lean ====
section
/-!
DEFINITION. The host operations (spec/00_scope.md R12, R13): the step engine's pulse `clock`
(spec/70_reset_and_hazards.md R280), `reset` (R270), `irq` and `nmi` (spec/60_exceptions.md R240,
R241), `attach_bus` (R272). `construct` is `State.construct`. `step` takes no trigger itself (log 4).

A call answers a next state, or a refusal: the spec's `raise Refuse(reason)`. `perform` is the call
as the spec tells it, on the whole record: a refusal sets the sticky mark and changes nothing else
(R40, R285).
-/

namespace Sys2Proof.Machine

/-- The host's calls on a constructed core (R12). -/
inductive HostCall where
  | clock
  | reset
  | irq
  | nmi
  | attachBus (m : Memory)
  deriving DecidableEq, Repr

/-- The instruction at PC: its opcode byte and the two bytes that may be its operand (R90, R95).
The unused bytes do not enter the result; the transactions the core issues are in Trace.lean
(log 12). -/
def fetchInstr (s : State) : Instr :=
  decodeInstr (s.mem.read s.pc) (s.mem.read (s.pc + 1)) (s.mem.read (s.pc + 2))

/-- The end of every pulse (R280): `remaining <- remaining - 1; total_cycles <- total_cycles + 1`. -/
def tick (s : State) : State :=
  (s.setRemaining (s.remaining - 1)).setTotalCycles (s.totalCycles + 1)

/-- An executed instruction's outcome with the end of its first pulse (R280, R283). -/
def tickOutcome : Host.Outcome State Fault Refusal → Host.Outcome State Fault Refusal
  | .next t => .next (tick t)
  | .fault f => .fault f
  | .refused r => .refused r

/-- One pulse with a bus attached and no refusal recorded (R280): Idle executes, Busy only counts. -/
def pulse (s : State) : Host.Outcome State Fault Refusal :=
  if s.remaining = 0 then tickOutcome (exec (fetchInstr s) s) else .next (tick s)

/-- The reset protocol (R270). -/
def resetProtocol (s : State) : State :=
  ((((((s.setPc (s.mem.readWord Config.resetVector)).setA 0x00#8).setX 0x00#8).setY 0x00#8).setSp
    0xFD#8).setP 0x24#8).setRemaining Config.resetCycles

/-- The IRQ entry point (R240): nothing if P.I = 1, else `IntEntry(IRQ_VECTOR, IRQ_CYCLES)`. -/
def irqProtocol (s : State) : State :=
  if s.flag .i then s else intEntry Config.irqVector Config.irqCycles s

/-- The NMI entry point (R241): `IntEntry(NMI_VECTOR, NMI_CYCLES)`, whatever P.I is. -/
def nmiProtocol (s : State) : State := intEntry Config.nmiVector Config.nmiCycles s

/-- `attach_bus(b)` with the default bus holding the bytes `m` (R272, R70; log 16). -/
def attachBus (m : Memory) (s : State) : State := (s.setBusAttached true).setMem m

/-- A trigger is permitted only when the engine is Idle (R284). -/
def whenIdle (op : Trigger) (run : State → State) (s : State) : Host.Outcome State Fault Refusal :=
  if s.remaining = 0 then .next (run s) else .refused (.busyTrigger op)

/-- A call other than `attach_bus` is refused while no bus is attached (R272; checked before
Busy, log 7). -/
def whenAttached (run : State → Host.Outcome State Fault Refusal) (s : State) :
    Host.Outcome State Fault Refusal :=
  if s.busAttached then run s else .refused .noBus

/-- A host call on a core with no refusal recorded (R13, R240, R241, R270, R272, R280, R284). -/
def callUnrefused (c : HostCall) (s : State) : Host.Outcome State Fault Refusal :=
  match c with
  | .clock => whenAttached pulse s
  | .reset => whenAttached (whenIdle .reset resetProtocol) s
  | .irq => whenAttached (whenIdle .irq irqProtocol) s
  | .nmi => whenAttached (whenIdle .nmi nmiProtocol) s
  | .attachBus m => .next (attachBus m s)

/-- A host call (R13). Once a refusal is recorded no state has a meaning, so the call answers that
refusal again (R285; log 6). -/
def hostCall (c : HostCall) (s : State) : Host.Outcome State Fault Refusal :=
  match s.refused with
  | some r => .refused r
  | none => callUnrefused c s

/-- What an outcome leaves in the state record: a refusal sets the mark and changes nothing else
(R40). -/
def record (s : State) : Host.Outcome State Fault Refusal → State
  | .next t => t
  | .fault _ => s
  | .refused r => s.setRefused (some r)

/-- A host call as the spec's pseudocode has it, on the whole state record (R40, R270 to R285). -/
def perform (c : HostCall) (s : State) : State := record s (hostCall c s)

/-- A sequence of host calls, in order (R13, R243: the host makes one call at a time). -/
def performAll : List HostCall → State → State
  | [], s => s
  | c :: cs, s => performAll cs (perform c s)

/-- Store three bytes from PC on: `withFetchWord`'s placement. -/
def placeBytes (s : State) (b0 b1 b2 : Byte) : State :=
  s.setMem (((s.mem.write s.pc b0).write (s.pc + 1) b1).write (s.pc + 2) b2)

/-- Make the next pulse fetch: bus attached, no refusal recorded, engine Idle (R280; log 2). -/
def readyToFetch (s : State) : State := ((s.setBusAttached true).setRefused none).setRemaining 0

end Sys2Proof.Machine
end

