-- ==== Sys2Proof/Machine/Step.lean ====
section
/-!
DEFINITION. One step is one clock pulse (spec/70_reset_and_hazards.md R280; log 3).
-/

namespace Sys2Proof.Machine

/-- One `clock` call (R280). -/
def step (s : State) : Host.Outcome State Fault Refusal := hostCall .clock s

/-- `s` with the instruction whose bits are `w` (numbered as in spec/opcode_table.json, zero from bit
`nbits` up) at PC, and the engine ready to fetch it at the very next step (log 2). -/
def State.withFetchWord (s : State) (nbits w : Nat) : State :=
  readyToFetch (placeBytes s (BitVec.ofNat 8 (w % 2 ^ nbits))
    (BitVec.ofNat 8 (w % 2 ^ nbits / 256)) (BitVec.ofNat 8 (w % 2 ^ nbits / 65536)))

end Sys2Proof.Machine
end

