-- ==== Sys2Proof/Machine/Trace.lean ====
section
/-!
DEFINITION. The bus transactions of a host call, in order (spec/20_memory.md R51, R52, R58,
spec/30_encoding.md R90, spec/95_test_vectors.md section 3). They are derived from the state before
the call; they are not state. With the default bus (R70) a read has no side effect, so the order is
visible to a bus agent only (log 8); this file says what the order is.
-/

namespace Sys2Proof.Machine

/-- One bus transaction: a read with the byte it returned, or a write (R51, R52). -/
inductive BusAccess where
  | read (address : Word) (value : Byte)
  | write (address : Word) (value : Byte)
  deriving DecidableEq, Repr

/-- One read of the flat bus. -/
def readAccess (m : Memory) (a : Word) : BusAccess := .read a (m.read a)

/-- `MemRead(a, 2)`: two reads, low address first (R53). -/
def readWordAccesses (m : Memory) (a : Word) : List BusAccess := [readAccess m a, readAccess m (a + 1)]

/-- A pointer read: the second byte inside the pointer's page (R105 to R107). -/
def readPointerAccesses (m : Memory) (a : Word) : List BusAccess :=
  [readAccess m a, readAccess m (nextInPage a)]

/-- The operand bytes the resolver reads at PC (R95 to R108): none in Immediate mode, where the
handler reads the operand byte (R98). -/
def operandFetchAccesses (o : Operand) (s : State) : List BusAccess :=
  match o with
  | .imp | .acc | .imm _ => []
  | .zp0 _ | .zpx _ | .zpy _ | .izx _ | .izy _ | .rel _ => [readAccess s.mem s.pc]
  | .abs _ | .abx _ | .aby _ | .ind _ => readWordAccesses s.mem s.pc

/-- The pointer bytes the resolver reads (R105 to R107). -/
def pointerAccesses (o : Operand) (s : State) : List BusAccess :=
  match o with
  | .ind w =>
    if Config.jmpIndirectPageWrap then readPointerAccesses s.mem w else readWordAccesses s.mem w
  | .izx b => readPointerAccesses s.mem (zext16 (b + s.x))
  | .izy b => readPointerAccesses s.mem (zext16 b)
  | .imp | .acc | .imm _ | .zp0 _ | .zpx _ | .zpy _ | .abs _ | .abx _ | .aby _ | .rel _ => []

/-- `Operand()`'s one read at EA; none in Accumulator mode (R109). -/
def operandReadAccesses (o : Operand) (r : State) : List BusAccess :=
  match o with
  | .acc => []
  | .imp | .imm _ | .zp0 _ | .zpx _ | .zpy _ | .abs _ | .abx _ | .aby _ | .ind _ | .izx _ | .izy _
  | .rel _ => [readAccess r.mem r.addrAbs]

/-- `WriteBack(v)`'s one write at EA; none in Accumulator mode (R110). -/
def writeBackAccesses (o : Operand) (v : Byte) (r : State) : List BusAccess :=
  match o with
  | .acc => []
  | .imp | .imm _ | .zp0 _ | .zpx _ | .zpy _ | .abs _ | .abx _ | .aby _ | .ind _ | .izx _ | .izy _
  | .rel _ => [.write r.addrAbs v]

/-- A read-modify-write handler: one read, then one write (R57, R58). -/
def modifyAccesses (o : Operand) (v : Byte) (r : State) : List BusAccess :=
  operandReadAccesses o r ++ writeBackAccesses o v r

/-- `Push(v)`: one write (R60). -/
def pushAccess (v : Byte) (s : State) : BusAccess := .write (stackAddr s.sp) v

/-- `Pull()`: one read (R61). -/
def pullAccess (s : State) : BusAccess := readAccess s.mem (stackAddr (s.sp + 1))

/-- Two pushes, high byte first. -/
def pushWordAccesses (w : Word) (s : State) : List BusAccess :=
  [pushAccess (hiByte w) s, pushAccess (loByte w) (push (hiByte w) s)]

/-- Two pulls, low byte first. -/
def pullWordAccesses (s : State) : List BusAccess := [pullAccess s, pullAccess (pullSp s)]

/-- The entry sequence: three writes, then the two vector reads (R233, R221). -/
def interruptAccesses (vector : Word) (pushedP : Byte) (s : State) : List BusAccess :=
  pushWordAccesses s.pc s ++ [pushAccess pushedP (pushWord s.pc s)] ++
    readWordAccesses (push pushedP (pushWord s.pc s)).mem vector

/-- The transactions of a handler, from the resolved state (R120 to R221). -/
def handlerAccesses (m : Mnemonic) (o : Operand) (r : State) : List BusAccess :=
  match m with
  | .lda | .ldx | .ldy | .adc | .sbc | .and | .ora | .eor | .bit | .cmp | .cpx | .cpy =>
    operandReadAccesses o r
  | .sta => [.write r.addrAbs r.a]
  | .stx => [.write r.addrAbs r.x]
  | .sty => [.write r.addrAbs r.y]
  | .inc => modifyAccesses o (operandByte o r + 1) r
  | .dec => modifyAccesses o (operandByte o r - 1) r
  | .asl => modifyAccesses o (aslResult (operandByte o r)) r
  | .lsr => modifyAccesses o (lsrResult (operandByte o r)) r
  | .rol => modifyAccesses o (rolResult (r.flag .c) (operandByte o r)) r
  | .ror => modifyAccesses o (rorResult (r.flag .c) (operandByte o r)) r
  | .pha => [pushAccess r.a r]
  | .php => [pushAccess (softwarePushedP r.p) r]
  | .pla | .plp => [pullAccess r]
  | .jsr => pushWordAccesses (r.pc - 1) r
  | .rts => pullWordAccesses r
  | .rti => pullAccess r :: pullWordAccesses (pullSp r)
  | .brk => interruptAccesses Config.irqVector (softwarePushedP r.p) (r.setPc (r.pc + 1))
  | .tax | .tay | .txa | .tya | .tsx | .txs | .inx | .iny | .dex | .dey
  | .bcc | .bcs | .beq | .bne | .bmi | .bpl | .bvc | .bvs | .jmp
  | .clc | .cld | .cli | .clv | .sec | .sed | .sei | .nop | .undocumented => []

/-- The transactions of one instruction, all in its first pulse (R90): opcode read, resolver reads,
handler reads and writes. An undocumented opcode makes the opcode read only (R222). -/
def instrAccesses (i : Instr) (s : State) : List BusAccess :=
  readAccess s.mem s.pc ::
    (operandFetchAccesses i.operand (fetchOpcode i.opcode s) ++
      pointerAccesses i.operand (fetchOpcode i.opcode s) ++
      handlerAccesses i.mnemonic i.operand (resolved i.opcode i.operand s))

/-- The transactions of a host call (R240, R241, R270, R272, R280, R284, R285): a refused call makes
none but the opcode read of an undocumented opcode. -/
def callAccesses (c : HostCall) (s : State) : List BusAccess :=
  if s.refused ≠ none ∨ s.busAttached = false then []
  else
    match c with
    | .clock => if s.remaining = 0 then instrAccesses (fetchInstr s) s else []
    | .reset => if s.remaining = 0 then readWordAccesses s.mem Config.resetVector else []
    | .irq =>
      if s.remaining = 0 ∧ s.flag .i = false then
        interruptAccesses Config.irqVector (hardwarePushedP s.p) s
      else []
    | .nmi =>
      if s.remaining = 0 then interruptAccesses Config.nmiVector (hardwarePushedP s.p) s else []
    | .attachBus _ => []

/-- A memory after a list of transactions: the writes, in order (R65). -/
def replay (m : Memory) : List BusAccess → Memory
  | [] => m
  | .read _ _ :: rest => replay m rest
  | .write a v :: rest => replay (m.write a v) rest

/-- Every read of the list returns the last byte written there (R65, R70). -/
def readsAgree (m : Memory) : List BusAccess → Prop
  | [] => True
  | .read a v :: rest => m.read a = v ∧ readsAgree m rest
  | .write a v :: rest => readsAgree (m.write a v) rest

end Sys2Proof.Machine
end

