-- ==== Sys2Proof/Safety.lean ====
section
/-!
DEFINITION. What claims call a good state and a good run: the two engine states, the legal states of
the record, the end of a run (spec/70_reset_and_hazards.md R281, R286, spec/10_state.md R38, R46), and
the words in which claims say what a run leaves unchanged.
-/

namespace Sys2Proof.Machine

/-- Idle: no instruction in flight (R281). -/
abbrev State.Idle (s : State) : Prop := s.remaining = 0

/-- Busy: waiting out an instruction's or an entry's cycles (R281). -/
abbrev State.Busy (s : State) : Prop := 0 < s.remaining

/-- A core a pulse has a meaning for: no refusal recorded and a bus attached (R280). -/
abbrev State.Running (s : State) : Prop := s.refused = none ∧ s.busAttached = true

/-- An instruction boundary at which an instruction or a trigger may start (R14, R232). -/
abbrev State.AtBoundary (s : State) : Prop := s.Running ∧ s.Idle

/-- The status byte's invariant after the first reset: U = 1 and B = 0 (R46). -/
abbrev State.StatusFixed (s : State) : Prop := s.flag .u = true ∧ s.flag .b = false

/-- The counter's bound (R38) and the canonical memory (R70). -/
abbrev State.Bounded (s : State) : Prop := s.remaining ≤ 7 ∧ s.mem.wf

/-- The invariant of the core after its first reset (R38, R46, R70). -/
abbrev State.Inv (s : State) : Prop := s.StatusFixed ∧ s.Bounded

/-- The end of a run at a stop address (R286): Idle there with no refusal recorded. -/
abbrev State.EndsAt (s : State) (stop : Word) : Prop := s.refused = none ∧ s.Idle ∧ s.pc = stop

/-- A call that hands the core a memory hands it one in canonical form. -/
abbrev HostCall.WellFormed : HostCall → Prop
  | .clock | .reset | .irq | .nmi => True
  | .attachBus m => m.wf

/-! ## What a claim says is unchanged -/

/-- The four byte registers (R20); P has its flags, PC its own clauses. -/
inductive Reg where
  | a
  | x
  | y
  | sp
  deriving DecidableEq, Repr

/-- A byte register's content. -/
def State.reg (s : State) : Reg → Byte
  | .a => s.a
  | .x => s.x
  | .y => s.y
  | .sp => s.sp

/-- Every byte register but those named is unchanged. -/
abbrev KeepsRegs (written : List Reg) (s t : State) : Prop := ∀ r, r ∉ written → t.reg r = s.reg r

/-- Every flag but those named is unchanged. -/
abbrev KeepsFlags (written : List Flag) (s t : State) : Prop :=
  ∀ f, f ∉ written → t.flag f = s.flag f

/-- Every byte of memory but those at the named addresses is unchanged. -/
abbrev KeepsMemory (written : List Word) (s t : State) : Prop :=
  ∀ a, a ∉ written → t.mem.read a = s.mem.read a

/-- The engine's telemetry counter, the refusal mark and the bus attachment are unchanged. -/
abbrev KeepsHost (s t : State) : Prop :=
  t.totalCycles = s.totalCycles ∧ t.refused = s.refused ∧ t.busAttached = s.busAttached

/-- Everything but the named parts of an instruction's effect is unchanged: the frame of a claim. -/
structure Frame (regs : List Reg) (flags : List Flag) (bytes : List Word) (s t : State) : Prop where
  regs : KeepsRegs regs s t
  flags : KeepsFlags flags s t
  memory : KeepsMemory bytes s t
  host : KeepsHost s t

/-- The address of the instruction after `i` at PC (R25, R81). -/
def nextPc (i : Instr) (s : State) : Word := s.pc + BitVec.ofNat 16 i.length

/-- `base_cycles + c1 + c2` of `i` from the boundary state `s` (R282). -/
def cost (i : Instr) (s : State) (c2 : Nat) : Nat :=
  (descriptor i.opcode).baseCycles +
    (if pageCrossed i.operand s && (descriptor i.opcode).pagePenalty then 1 else 0) + c2

/-- The table's rows of one mnemonic: opcode, mode, base cycles, page penalty (R85, R89). -/
def rowsOf (m : Mnemonic) : List (Nat × Mode × Nat × Bool) :=
  opcodeTable.zipIdx.filterMap fun r =>
    if r.1.mnemonic = m then some (r.2, r.1.mode, r.1.baseCycles, r.1.pagePenalty) else none

end Sys2Proof.Machine
end

