-- ==== Sys2Proof/Certificates/Slice0/Obligations.lean ====
section
/-!
DEFINITION. The statements for the provers: def Obligations.<Name> : Prop, listed in OBLIGATIONS.json.
Each docstring names the rule of spec/ it formalises. A statement about an instruction quantifies over
every row of its mnemonic (`i.mnemonic = …`), concludes that `exec` answers a next state, says what
that state holds, and gives its frame (Safety.lean). "m" is the operand byte `operandValue i.operand s`,
the effective address is `effAddr i.operand s`, both at the state before the opcode fetch.
-/

open Sys2Proof Sys2Proof.Machine

/-! ## Decoding and encoding -/

/-- Derived (spec/30_encoding.md section 3, spec/70_reset_and_hazards.md section 2; a step is one
pulse, log 3; the refusal answer is log 5): at a boundary, a step is `exec` of the instruction
whose bytes stand at PC, and the first pulse's end (`remaining - 1`, `total_cycles + 1`) around
its next state; a refusal passes. -/
def Obligations.StepRunsDecodedInstruction : Prop :=
  ∀ (s : State) (i : Instr) (rest : List Byte), s.AtBoundary →
    decode [s.mem.read s.pc, s.mem.read (s.pc + 1), s.mem.read (s.pc + 2)] = .ok (i, rest) →
      i.WellFormed ∧
        step s = match exec i s with
          | .next t => .next ((t.setRemaining (t.remaining - 1)).setTotalCycles (t.totalCycles + 1))
          | .fault f => .fault f
          | .refused r => .refused r

/-- R85, R111: words written out from the matrix and the syntax table, one per format and family.
-/
def Obligations.DecodesWordsOfTheMatrix : Prop :=
  decode [0xA9#8, 0x10#8] = .ok (.ldaImm 0x10#8, []) ∧
    decode [0xBD#8, 0x34#8, 0x12#8] = .ok (.ldaAbx 0x1234#16, []) ∧
    decode [0x91#8, 0x10#8] = .ok (.staIzy 0x10#8, []) ∧
    decode [0x71#8, 0x20#8, 0xFF#8] = .ok (.adcIzy 0x20#8, [0xFF#8]) ∧
    decode [0x0A#8] = .ok (.aslAcc, []) ∧
    decode [0xC9#8, 0x20#8] = .ok (.cmpImm 0x20#8, []) ∧
    decode [0xD0#8, 0xEE#8] = .ok (.bne 0xEE#8, []) ∧
    decode [0x48#8] = .ok (.pha, []) ∧
    decode [0x6C#8, 0x34#8, 0x12#8] = .ok (.jmpInd 0x1234#16, []) ∧
    decode [0x18#8] = .ok (.clc, []) ∧
    decode [0x00#8] = .ok (.brk, []) ∧
    decode [0x89#8, 0x00#8] = .ok (.undocumented 0x89#8, [0x00#8])

/-- R80, R82, R85: every well-formed instruction's bytes decode to it, whatever follows them. -/
def Obligations.DecodeOfEncode : Prop :=
  ∀ (i : Instr) (rest : List Byte), i.WellFormed → decode (encode i ++ rest) = .ok (i, rest)

/-- R80, R83: what the decoder reads is well formed, and its bytes are exactly those consumed. -/
def Obligations.EncodeOfDecode : Prop :=
  ∀ (bytes rest : List Byte) (i : Instr), decode bytes = .ok (i, rest) →
    i.WellFormed ∧ encode i ++ rest = bytes

/-- Derived (spec/30_encoding.md section 2): every byte has a descriptor with base cost at least
1; it is `???` exactly for the 105 undocumented bytes; and the instruction the byte selects has
that mnemonic and mode. -/
def Obligations.OpcodeTableIsTotal : Prop :=
  undocumentedOpcodes.length = 105 ∧ undocumentedOpcodes.Nodup ∧
    ∀ op lo hi : Byte,
      1 ≤ (descriptor op).baseCycles ∧
      ((descriptor op).mnemonic = .undocumented ↔ op ∈ undocumentedOpcodes) ∧
      (op ∈ undocumentedOpcodes → descriptor op = ⟨.undocumented, .imp, 2, false⟩) ∧
      (decodeInstr op lo hi).opcode = op ∧
      (decodeInstr op lo hi).mnemonic = (descriptor op).mnemonic ∧
      (decodeInstr op lo hi).operand.mode = (descriptor op).mode

/-- R81, R91: three bytes always decode, and the length is 1 plus the descriptor's operand width.
-/
def Obligations.DecodingNeverFails : Prop :=
  ∀ op lo hi : Byte, ∃ (i : Instr) (rest : List Byte),
    decode [op, lo, hi] = .ok (i, rest) ∧ rest.length + i.length = 3 ∧
      i.length = 1 + (descriptor op).mode.width

/-- R80, R82: the instruction fetched at PC takes its operand from the bytes after the opcode, low
byte first. -/
def Obligations.FetchReadsOperandBytes : Prop :=
  ∀ s : State,
    (fetchInstr s).opcode = s.mem.read s.pc ∧
      ((fetchInstr s).operand.mode.width = 1 →
        (fetchInstr s).operand.bytes = [s.mem.read (s.pc + 1)]) ∧
      ((fetchInstr s).operand.mode.width = 2 →
        (fetchInstr s).operand.bytes = [s.mem.read (s.pc + 1), s.mem.read (s.pc + 2)])

/-- R89: `page_penalty` holds for exactly the ABX, ABY and IZY forms of the nine reading
mnemonics, and only there does a page crossing cost a cycle. -/
def Obligations.PagePenaltyOnlyForReads : Prop :=
  ∀ (op : Byte) (i : Instr) (s : State),
    ((descriptor op).pagePenalty = true ↔
      (descriptor op).mode ∈ [Mode.abx, .aby, .izy] ∧
        (descriptor op).mnemonic ∈ [Mnemonic.adc, .and, .cmp, .eor, .lda, .ldx, .ldy, .ora, .sbc]) ∧
    (cost i s 0 = (descriptor i.opcode).baseCycles + 1 ↔
      pageCrossed i.operand s = true ∧ (descriptor i.opcode).pagePenalty = true)

/-! ## Memory and the stack protocol -/

/-- Derived (spec/20_memory.md section 4; the canonical form is log 1's): two memories in
canonical form that read alike are the same list. -/
def Obligations.CanonicalMemoryIsUnique : Prop :=
  ∀ m n : Memory, m.wf → n.wf → (∀ a, m.read a = n.read a) → m = n

/-- R53, R54: a 16-bit read takes its low byte at `a` and its high byte at `(a + 1) & 0xFFFF`, and
bytes written there in that order read back as the word. -/
def Obligations.WordReadIsLittleEndian : Prop :=
  (∀ (m : Memory) (a : Word), (m.readWord a).toNat =
    (m.read a).toNat + 256 * (m.read (BitVec.ofNat 16 ((a.toNat + 1) % 65536))).toNat) ∧
  ∀ (m : Memory) (a w : Word), m.wf →
    ((m.write a (BitVec.ofNat 8 (w.toNat % 256))).write (a + 1)
      (BitVec.ofNat 8 (w.toNat / 256))).readWord a = w

/-- R60, R61: Push writes at 0x0100 + SP and decrements SP modulo 256; Pull increments SP and
reads there; neither changes anything else. -/
def Obligations.StackProtocol : Prop :=
  ∀ (v : Byte) (s : State),
    ((push v s).sp.toNat = (s.sp.toNat + 255) % 256 ∧
      (s.mem.wf → (push v s).mem.read (BitVec.ofNat 16 (0x0100 + s.sp.toNat)) = v) ∧
      Frame [.sp] [] [BitVec.ofNat 16 (0x0100 + s.sp.toNat)] s (push v s) ∧
      (push v s).pc = s.pc) ∧
    ((pullSp s).sp.toNat = (s.sp.toNat + 1) % 256 ∧
      pullByte s = s.mem.read (BitVec.ofNat 16 (0x0100 + (s.sp.toNat + 1) % 256)) ∧
      Frame [.sp] [] [] s (pullSp s) ∧ (pullSp s).pc = s.pc)

/-- R61, R62, R63: a pull undoes a push, at every SP including the wrap, and so do two for a word.
-/
def Obligations.PullUndoesPush : Prop :=
  ∀ (v : Byte) (w : Word) (s : State), s.mem.wf →
    pullByte (push v s) = v ∧ (pullSp (push v s)).sp = s.sp ∧
      pullWord (pushWord w s) = w ∧ (pullSp (pullSp (pushWord w s))).sp = s.sp

/-! ## The resolver -/

/-- R95: the resolver advances PC by the operand width and writes no other register, no flag and
no memory; `crossed` holds in ABX, ABY and IZY only. That `opcode` and `fetched`, and `addr_rel` and
`addr_abs` in the modes that do not produce them, keep their old values is the model's choice, log 10
(R37 lets a model keep the scratch or drop it; R96 says only that EA is not used). -/
def Obligations.ResolverFrame : Prop :=
  ∀ (o : Operand) (s : State),
    (resolve o s).pc.toNat = (s.pc.toNat + o.mode.width) % 65536 ∧
      Frame [] [] [] s (resolve o s) ∧ (resolve o s).p = s.p ∧
      (resolve o s).remaining = s.remaining ∧ (resolve o s).opcode = s.opcode ∧
      (resolve o s).fetched = s.fetched ∧
      (o.mode ≠ .rel → (resolve o s).addrRel = s.addrRel) ∧
      (o.mode ∈ [Mode.imp, .acc, .rel] → (resolve o s).addrAbs = s.addrAbs) ∧
      ((resolve o s).crossed = true → o.mode ∈ [Mode.abx, .aby, .izy])

/-- R99 to R101: the Zero Page modes stay inside page zero. -/
def Obligations.ZeroPageModes : Prop :=
  ∀ (b : Byte) (s : State),
    ((resolve (.zp0 b) s).addrAbs.toNat = b.toNat ∧
      (resolve (.zpx b) s).addrAbs.toNat = (b.toNat + s.x.toNat) % 256 ∧
      (resolve (.zpy b) s).addrAbs.toNat = (b.toNat + s.y.toNat) % 256) ∧
    (resolve (.zp0 b) s).crossed = false ∧ (resolve (.zpx b) s).crossed = false ∧
      (resolve (.zpy b) s).crossed = false

/-- R102 to R104: Absolute takes the operand verbatim; the indexed forms add X or Y modulo 2^16
and signal a crossing iff the high byte changes (a wrap past 0xFFFF counts). -/
def Obligations.AbsoluteModes : Prop :=
  ∀ (w : Word) (s : State),
    ((resolve (.abs w) s).addrAbs = w ∧ (resolve (.abs w) s).crossed = false) ∧
    ((resolve (.abx w) s).addrAbs.toNat = (w.toNat + s.x.toNat) % 65536 ∧
      ((resolve (.abx w) s).crossed = true ↔
        w.toNat / 256 ≠ (w.toNat + s.x.toNat) % 65536 / 256)) ∧
    ((resolve (.aby w) s).addrAbs.toNat = (w.toNat + s.y.toNat) % 65536 ∧
      ((resolve (.aby w) s).crossed = true ↔
        w.toNat / 256 ≠ (w.toNat + s.y.toNat) % 65536 / 256))

/-- R105 to R107: the pointer's high byte is read inside the pointer's page; IZX indexes before,
IZY after the pointer read, and only IZY signals a crossing. -/
def Obligations.IndirectModes : Prop :=
  ∀ (w : Word) (b : Byte) (s : State),
    ((resolve (.ind w) s).addrAbs.toNat = (s.mem.read w).toNat +
        256 * (s.mem.read (BitVec.ofNat 16 (w.toNat / 256 * 256 + (w.toNat + 1) % 256))).toNat ∧
      (resolve (.ind w) s).crossed = false) ∧
    ((resolve (.izx b) s).addrAbs.toNat =
        (s.mem.read (BitVec.ofNat 16 ((b.toNat + s.x.toNat) % 256))).toNat +
        256 * (s.mem.read (BitVec.ofNat 16 ((b.toNat + s.x.toNat + 1) % 256))).toNat ∧
      (resolve (.izx b) s).crossed = false) ∧
    ∀ base : Nat, base = (s.mem.read (BitVec.ofNat 16 b.toNat)).toNat +
        256 * (s.mem.read (BitVec.ofNat 16 ((b.toNat + 1) % 256))).toNat →
      (resolve (.izy b) s).addrAbs.toNat = (base + s.y.toNat) % 65536 ∧
        ((resolve (.izy b) s).crossed = true ↔ base / 256 ≠ (base + s.y.toNat) % 65536 / 256)

/-- R98, R108: Immediate mode's EA is the operand byte's address; a Relative target is PC after
the operand plus the signed offset, modulo 2^16. That the operand is the byte the decoder read, not
one read again at EA, is the model's choice, log 9 (R98 reads it at EA, in the handler). -/
def Obligations.ImmediateAndRelativeModes : Prop :=
  ∀ (b : Byte) (s : State),
    ((resolve (.imm b) s).addrAbs = s.pc ∧ operandByte (.imm b) (resolve (.imm b) s) = b) ∧
    (((resolve (.rel b) s).pc + (resolve (.rel b) s).addrRel).toNat : Int) =
      ((s.pc.toNat : Int) + 1 + b.toInt) % 65536

/-! ## Loads, stores, transfers (spec/40_load_store.md) -/

/-- R120 to R122: rows, result, Z, N, PC, cost, one bus read at EA, and the frame. -/
def Obligations.LoadsReadTheOperand : Prop :=
  (rowsOf .lda = [(0xA1, .izx, 6, false), (0xA5, .zp0, 3, false), (0xA9, .imm, 2, false),
      (0xAD, .abs, 4, false), (0xB1, .izy, 5, true), (0xB5, .zpx, 4, false),
      (0xB9, .aby, 4, true), (0xBD, .abx, 4, true)] ∧
    ∀ (i : Instr) (s : State), i.mnemonic = .lda → ∃ t, exec i s = .next t ∧
      t.a = operandValue i.operand s ∧
      (t.flag .z = true ↔ operandValue i.operand s = 0x00#8) ∧
      (t.flag .n = true ↔ 128 ≤ (operandValue i.operand s).toNat) ∧
      handlerAccesses i.mnemonic i.operand (resolved i.opcode i.operand s) =
        [.read (resolved i.opcode i.operand s).addrAbs
          (s.mem.read (resolved i.opcode i.operand s).addrAbs)] ∧
      t.pc = nextPc i s ∧ t.remaining = cost i s 0 ∧ Frame [.a] [.z, .n] [] s t) ∧
  (rowsOf .ldx = [(0xA2, .imm, 2, false), (0xA6, .zp0, 3, false), (0xAE, .abs, 4, false),
      (0xB6, .zpy, 4, false), (0xBE, .aby, 4, true)] ∧
    ∀ (i : Instr) (s : State), i.mnemonic = .ldx → ∃ t, exec i s = .next t ∧
      t.x = operandValue i.operand s ∧
      (t.flag .z = true ↔ operandValue i.operand s = 0x00#8) ∧
      (t.flag .n = true ↔ 128 ≤ (operandValue i.operand s).toNat) ∧
      handlerAccesses i.mnemonic i.operand (resolved i.opcode i.operand s) =
        [.read (resolved i.opcode i.operand s).addrAbs
          (s.mem.read (resolved i.opcode i.operand s).addrAbs)] ∧
      t.pc = nextPc i s ∧ t.remaining = cost i s 0 ∧ Frame [.x] [.z, .n] [] s t) ∧
  (rowsOf .ldy = [(0xA0, .imm, 2, false), (0xA4, .zp0, 3, false), (0xAC, .abs, 4, false),
      (0xB4, .zpx, 4, false), (0xBC, .abx, 4, true)] ∧
    ∀ (i : Instr) (s : State), i.mnemonic = .ldy → ∃ t, exec i s = .next t ∧
      t.y = operandValue i.operand s ∧
      (t.flag .z = true ↔ operandValue i.operand s = 0x00#8) ∧
      (t.flag .n = true ↔ 128 ≤ (operandValue i.operand s).toNat) ∧
      handlerAccesses i.mnemonic i.operand (resolved i.opcode i.operand s) =
        [.read (resolved i.opcode i.operand s).addrAbs
          (s.mem.read (resolved i.opcode i.operand s).addrAbs)] ∧
      t.pc = nextPc i s ∧ t.remaining = cost i s 0 ∧ Frame [.y] [.z, .n] [] s t)

/-- R123 to R125: rows, the byte at EA, no flag, no read at EA, fixed cost, and the frame. -/
def Obligations.StoresWriteTheByteAtEA : Prop :=
  (rowsOf .sta = [(0x81, .izx, 6, false), (0x85, .zp0, 3, false), (0x8D, .abs, 4, false),
      (0x91, .izy, 6, false), (0x95, .zpx, 4, false), (0x99, .aby, 5, false),
      (0x9D, .abx, 5, false)] ∧
    ∀ (i : Instr) (s : State), i.mnemonic = .sta → ∃ t, exec i s = .next t ∧
      (s.mem.wf → t.mem.read (effAddr i.operand s) = s.a) ∧
      handlerAccesses i.mnemonic i.operand (resolved i.opcode i.operand s) =
        [.write (effAddr i.operand s) s.a] ∧
      t.pc = nextPc i s ∧ t.remaining = (descriptor i.opcode).baseCycles ∧
      Frame [] [] [effAddr i.operand s] s t) ∧
  (rowsOf .stx = [(0x86, .zp0, 3, false), (0x8E, .abs, 4, false), (0x96, .zpy, 4, false)] ∧
    ∀ (i : Instr) (s : State), i.mnemonic = .stx → ∃ t, exec i s = .next t ∧
      (s.mem.wf → t.mem.read (effAddr i.operand s) = s.x) ∧
      handlerAccesses i.mnemonic i.operand (resolved i.opcode i.operand s) =
        [.write (effAddr i.operand s) s.x] ∧
      t.pc = nextPc i s ∧ t.remaining = (descriptor i.opcode).baseCycles ∧
      Frame [] [] [effAddr i.operand s] s t) ∧
  (rowsOf .sty = [(0x84, .zp0, 3, false), (0x8C, .abs, 4, false), (0x94, .zpx, 4, false)] ∧
    ∀ (i : Instr) (s : State), i.mnemonic = .sty → ∃ t, exec i s = .next t ∧
      (s.mem.wf → t.mem.read (effAddr i.operand s) = s.y) ∧
      handlerAccesses i.mnemonic i.operand (resolved i.opcode i.operand s) =
        [.write (effAddr i.operand s) s.y] ∧
      t.pc = nextPc i s ∧ t.remaining = (descriptor i.opcode).baseCycles ∧
      Frame [] [] [effAddr i.operand s] s t)

/-- R126 to R129: rows, the copied byte, Z and N from it, cost 2, and the frame. -/
def Obligations.TransfersCopyARegister : Prop :=
  rowsOf .tax = [(0xAA, .imp, 2, false)] ∧
  rowsOf .tay = [(0xA8, .imp, 2, false)] ∧
  rowsOf .txa = [(0x8A, .imp, 2, false)] ∧
  rowsOf .tya = [(0x98, .imp, 2, false)] ∧
  ∀ s : State,
    (∃ t, exec .tax s = .next t ∧ t.x = s.a ∧ (t.flag .z = true ↔ s.a = 0x00#8) ∧
      (t.flag .n = true ↔ 128 ≤ s.a.toNat) ∧ t.pc = s.pc + 1 ∧ t.remaining = 2 ∧
      Frame [.x] [.z, .n] [] s t ∧ instrAccesses .tax s = [.read s.pc (s.mem.read s.pc)]) ∧
    (∃ t, exec .tay s = .next t ∧ t.y = s.a ∧ (t.flag .z = true ↔ s.a = 0x00#8) ∧
      (t.flag .n = true ↔ 128 ≤ s.a.toNat) ∧ t.pc = s.pc + 1 ∧ t.remaining = 2 ∧
      Frame [.y] [.z, .n] [] s t ∧ instrAccesses .tay s = [.read s.pc (s.mem.read s.pc)]) ∧
    (∃ t, exec .txa s = .next t ∧ t.a = s.x ∧ (t.flag .z = true ↔ s.x = 0x00#8) ∧
      (t.flag .n = true ↔ 128 ≤ s.x.toNat) ∧ t.pc = s.pc + 1 ∧ t.remaining = 2 ∧
      Frame [.a] [.z, .n] [] s t ∧ instrAccesses .txa s = [.read s.pc (s.mem.read s.pc)]) ∧
    (∃ t, exec .tya s = .next t ∧ t.a = s.y ∧ (t.flag .z = true ↔ s.y = 0x00#8) ∧
      (t.flag .n = true ↔ 128 ≤ s.y.toNat) ∧ t.pc = s.pc + 1 ∧ t.remaining = 2 ∧
      Frame [.a] [.z, .n] [] s t ∧ instrAccesses .tya s = [.read s.pc (s.mem.read s.pc)])

/-! ## Arithmetic and logic (spec/41_arithmetic.md) -/

/-- R142, and R141 for the decided parameter (D is no premise and stays): the sum modulo 256, C
iff it exceeds 255, V iff the operands have one sign and the result the other, which is signed
overflow. -/
def Obligations.AdcAddsWithCarry : Prop :=
  rowsOf .adc = [(0x61, .izx, 6, false), (0x65, .zp0, 3, false), (0x69, .imm, 2, false),
      (0x6D, .abs, 4, false), (0x71, .izy, 5, true), (0x75, .zpx, 4, false),
      (0x79, .aby, 4, true), (0x7D, .abx, 4, true)] ∧
  ∀ (i : Instr) (s : State) (sum : Nat), i.mnemonic = .adc →
    sum = s.a.toNat + (operandValue i.operand s).toNat + (s.flag .c).toNat →
    ∃ t, exec i s = .next t ∧ t.a.toNat = sum % 256 ∧
      (t.flag .c = true ↔ 255 < sum) ∧
      (t.flag .v = true ↔
        (s.a.msb = (operandValue i.operand s).msb ∧ s.a.msb ≠ t.a.msb)) ∧
      (t.flag .v = true ↔
        ¬ (-128 ≤ s.a.toInt + (operandValue i.operand s).toInt + (s.flag .c).toNat ∧
          s.a.toInt + (operandValue i.operand s).toInt + (s.flag .c).toNat ≤ 127)) ∧
      (t.flag .z = true ↔ t.a = 0x00#8) ∧ (t.flag .n = true ↔ 128 ≤ t.a.toNat) ∧
      t.pc = nextPc i s ∧ t.remaining = cost i s 0 ∧ Frame [.a] [.c, .z, .v, .n] [] s t

/-- R143, and R141: the difference with borrow modulo 256, C iff there is no borrow, V iff the
signed difference does not fit. -/
def Obligations.SbcSubtractsWithBorrow : Prop :=
  rowsOf .sbc = [(0xE1, .izx, 6, false), (0xE5, .zp0, 3, false), (0xE9, .imm, 2, false),
      (0xED, .abs, 4, false), (0xF1, .izy, 5, true), (0xF5, .zpx, 4, false),
      (0xF9, .aby, 4, true), (0xFD, .abx, 4, true)] ∧
  ∀ (i : Instr) (s : State) (m borrow : Nat), i.mnemonic = .sbc →
    m = (operandValue i.operand s).toNat → borrow = 1 - (s.flag .c).toNat →
    ∃ t, exec i s = .next t ∧ t.a.toNat = (s.a.toNat + 256 - m - borrow) % 256 ∧
      (t.flag .c = true ↔ m + borrow ≤ s.a.toNat) ∧
      (t.flag .v = true ↔
        (s.a.msb ≠ (operandValue i.operand s).msb ∧ s.a.msb ≠ t.a.msb)) ∧
      (t.flag .v = true ↔
        ¬ (-128 ≤ s.a.toInt - (operandValue i.operand s).toInt - borrow ∧
          s.a.toInt - (operandValue i.operand s).toInt - borrow ≤ 127)) ∧
      (t.flag .z = true ↔ t.a = 0x00#8) ∧ (t.flag .n = true ↔ 128 ≤ t.a.toNat) ∧
      t.pc = nextPc i s ∧ t.remaining = cost i s 0 ∧ Frame [.a] [.c, .z, .v, .n] [] s t

/-- R144 to R146: the three bitwise operations into A, bit by bit; C and V unchanged by the frame.
-/
def Obligations.LogicIntoA : Prop :=
  rowsOf .and = [(0x21, .izx, 6, false), (0x25, .zp0, 3, false), (0x29, .imm, 2, false),
      (0x2D, .abs, 4, false), (0x31, .izy, 5, true), (0x35, .zpx, 4, false),
      (0x39, .aby, 4, true), (0x3D, .abx, 4, true)] ∧
  rowsOf .ora = [(0x01, .izx, 6, false), (0x05, .zp0, 3, false), (0x09, .imm, 2, false),
      (0x0D, .abs, 4, false), (0x11, .izy, 5, true), (0x15, .zpx, 4, false),
      (0x19, .aby, 4, true), (0x1D, .abx, 4, true)] ∧
  rowsOf .eor = [(0x41, .izx, 6, false), (0x45, .zp0, 3, false), (0x49, .imm, 2, false),
      (0x4D, .abs, 4, false), (0x51, .izy, 5, true), (0x55, .zpx, 4, false),
      (0x59, .aby, 4, true), (0x5D, .abx, 4, true)] ∧
  ∀ (i : Instr) (s : State), i.mnemonic ∈ [Mnemonic.and, .ora, .eor] → ∃ t, exec i s = .next t ∧
    (∀ k < 8, t.a.getLsbD k =
      match i.mnemonic with
      | .and => s.a.getLsbD k && (operandValue i.operand s).getLsbD k
      | .ora => s.a.getLsbD k || (operandValue i.operand s).getLsbD k
      | _ => s.a.getLsbD k ^^ (operandValue i.operand s).getLsbD k) ∧
    (t.flag .z = true ↔ t.a = 0x00#8) ∧ (t.flag .n = true ↔ 128 ≤ t.a.toNat) ∧
    t.pc = nextPc i s ∧ t.remaining = cost i s 0 ∧ Frame [.a] [.z, .n] [] s t

/-- R147: Z from `A & m`, V and N from bits 6 and 7 of the memory byte; A unchanged by the frame.
-/
def Obligations.BitTestsTheMemoryByte : Prop :=
  rowsOf .bit = [(0x24, .zp0, 3, false), (0x2C, .abs, 4, false)] ∧
  ∀ (i : Instr) (s : State) (m : Byte), i.mnemonic = .bit → m = s.mem.read (effAddr i.operand s) →
    ∃ t, exec i s = .next t ∧
      (t.flag .z = true ↔ s.a &&& m = 0x00#8) ∧
      (t.flag .v = true ↔ 64 ≤ m.toNat % 128) ∧ (t.flag .n = true ↔ 128 ≤ m.toNat) ∧
      t.pc = nextPc i s ∧ t.remaining = cost i s 0 ∧ Frame [] [.z, .v, .n] [] s t

/-- R148, R149: the byte at EA plus or minus 1 modulo 256, Z and N from it, one read then one
write, fixed cost, and the frame (C unchanged). -/
def Obligations.IncDecMemory : Prop :=
  rowsOf .inc = [(0xE6, .zp0, 5, false), (0xEE, .abs, 6, false), (0xF6, .zpx, 6, false),
      (0xFE, .abx, 7, false)] ∧
  rowsOf .dec = [(0xC6, .zp0, 5, false), (0xCE, .abs, 6, false), (0xD6, .zpx, 6, false),
      (0xDE, .abx, 7, false)] ∧
  ∀ (i : Instr) (s : State) (ea : Word) (r : Byte), i.mnemonic ∈ [Mnemonic.inc, .dec] →
    ea = effAddr i.operand s →
    r.toNat = ((s.mem.read ea).toNat + if i.mnemonic = .inc then 1 else 255) % 256 →
    ∃ t, exec i s = .next t ∧ (s.mem.wf → t.mem.read ea = r) ∧
      (t.flag .z = true ↔ r = 0x00#8) ∧ (t.flag .n = true ↔ 128 ≤ r.toNat) ∧
      handlerAccesses i.mnemonic i.operand (resolved i.opcode i.operand s) =
        [.read ea (s.mem.read ea), .write ea r] ∧
      t.pc = nextPc i s ∧ t.remaining = (descriptor i.opcode).baseCycles ∧
      Frame [] [.z, .n] [ea] s t

/-- R150 to R153: the index register plus or minus 1 modulo 256, Z and N from it, cost 2, the
frame. -/
def Obligations.IncDecIndexRegisters : Prop :=
  rowsOf .inx = [(0xE8, .imp, 2, false)] ∧
  rowsOf .iny = [(0xC8, .imp, 2, false)] ∧
  rowsOf .dex = [(0xCA, .imp, 2, false)] ∧
  rowsOf .dey = [(0x88, .imp, 2, false)] ∧
  ∀ s : State,
    (∃ t, exec .inx s = .next t ∧ t.x.toNat = (s.x.toNat + 1) % 256 ∧
      (t.flag .z = true ↔ t.x = 0x00#8) ∧
      (t.flag .n = true ↔ 128 ≤ t.x.toNat) ∧ t.pc = s.pc + 1 ∧ t.remaining = 2 ∧
      Frame [.x] [.z, .n] [] s t ∧ instrAccesses .inx s = [.read s.pc (s.mem.read s.pc)]) ∧
    (∃ t, exec .iny s = .next t ∧ t.y.toNat = (s.y.toNat + 1) % 256 ∧
      (t.flag .z = true ↔ t.y = 0x00#8) ∧
      (t.flag .n = true ↔ 128 ≤ t.y.toNat) ∧ t.pc = s.pc + 1 ∧ t.remaining = 2 ∧
      Frame [.y] [.z, .n] [] s t ∧ instrAccesses .iny s = [.read s.pc (s.mem.read s.pc)]) ∧
    (∃ t, exec .dex s = .next t ∧ t.x.toNat = (s.x.toNat + 255) % 256 ∧
      (t.flag .z = true ↔ t.x = 0x00#8) ∧
      (t.flag .n = true ↔ 128 ≤ t.x.toNat) ∧ t.pc = s.pc + 1 ∧ t.remaining = 2 ∧
      Frame [.x] [.z, .n] [] s t ∧ instrAccesses .dex s = [.read s.pc (s.mem.read s.pc)]) ∧
    (∃ t, exec .dey s = .next t ∧ t.y.toNat = (s.y.toNat + 255) % 256 ∧
      (t.flag .z = true ↔ t.y = 0x00#8) ∧
      (t.flag .n = true ↔ 128 ≤ t.y.toNat) ∧ t.pc = s.pc + 1 ∧ t.remaining = 2 ∧
      Frame [.y] [.z, .n] [] s t ∧ instrAccesses .dey s = [.read s.pc (s.mem.read s.pc)])

/-! ## Shifts and rotates (spec/42_shift_rotate.md) -/

/-- R160, R161: ASL doubles modulo 256 with bit 7 to C; LSR halves with bit 0 to C and N clear; in
Accumulator mode the result goes to A with no bus access, else to the byte at EA, read once and
written once. -/
def Obligations.ShiftsMoveOneBit : Prop :=
  rowsOf .asl = [(0x06, .zp0, 5, false), (0x0A, .acc, 2, false), (0x0E, .abs, 6, false),
      (0x16, .zpx, 6, false), (0x1E, .abx, 7, false)] ∧
  rowsOf .lsr = [(0x46, .zp0, 5, false), (0x4A, .acc, 2, false), (0x4E, .abs, 6, false),
      (0x56, .zpx, 6, false), (0x5E, .abx, 7, false)] ∧
  ∀ (i : Instr) (s : State) (m r : Byte), i.mnemonic ∈ [Mnemonic.asl, .lsr] →
    m = operandValue i.operand s →
    r.toNat = (if i.mnemonic = .asl then 2 * m.toNat % 256 else m.toNat / 2) →
    ∃ t, exec i s = .next t ∧
      (t.flag .c = true ↔ if i.mnemonic = .asl then 128 ≤ m.toNat else m.toNat % 2 = 1) ∧
      (i.mnemonic = .lsr → t.flag .n = false) ∧
      (t.flag .z = true ↔ r = 0x00#8) ∧ (t.flag .n = true ↔ 128 ≤ r.toNat) ∧
      (i.operand = .acc → t.a = r ∧ Frame [.a] [.c, .z, .n] [] s t ∧
        handlerAccesses i.mnemonic i.operand (resolved i.opcode i.operand s) = []) ∧
      (i.operand ≠ .acc → (s.mem.wf → t.mem.read (effAddr i.operand s) = r) ∧
        Frame [] [.c, .z, .n] [effAddr i.operand s] s t ∧
        handlerAccesses i.mnemonic i.operand (resolved i.opcode i.operand s) =
          [.read (effAddr i.operand s) m, .write (effAddr i.operand s) r]) ∧
      t.pc = nextPc i s ∧ t.remaining = (descriptor i.opcode).baseCycles

/-- R162, R163: ROL moves the old C into bit 0 and bit 7 into C; ROR moves the old C into bit 7
(so N is the old C) and bit 0 into C. -/
def Obligations.RotatesGoThroughCarry : Prop :=
  rowsOf .rol = [(0x26, .zp0, 5, false), (0x2A, .acc, 2, false), (0x2E, .abs, 6, false),
      (0x36, .zpx, 6, false), (0x3E, .abx, 7, false)] ∧
  rowsOf .ror = [(0x66, .zp0, 5, false), (0x6A, .acc, 2, false), (0x6E, .abs, 6, false),
      (0x76, .zpx, 6, false), (0x7E, .abx, 7, false)] ∧
  ∀ (i : Instr) (s : State) (m r : Byte), i.mnemonic ∈ [Mnemonic.rol, .ror] →
    m = operandValue i.operand s →
    r.toNat = (if i.mnemonic = .rol then 2 * m.toNat % 256 + (s.flag .c).toNat
      else m.toNat / 2 + 128 * (s.flag .c).toNat) →
    ∃ t, exec i s = .next t ∧
      (t.flag .c = true ↔ if i.mnemonic = .rol then 128 ≤ m.toNat else m.toNat % 2 = 1) ∧
      (i.mnemonic = .ror → t.flag .n = s.flag .c) ∧
      (t.flag .z = true ↔ r = 0x00#8) ∧ (t.flag .n = true ↔ 128 ≤ r.toNat) ∧
      (i.operand = .acc → t.a = r ∧ Frame [.a] [.c, .z, .n] [] s t ∧
        handlerAccesses i.mnemonic i.operand (resolved i.opcode i.operand s) = []) ∧
      (i.operand ≠ .acc → (s.mem.wf → t.mem.read (effAddr i.operand s) = r) ∧
        Frame [] [.c, .z, .n] [effAddr i.operand s] s t ∧
        handlerAccesses i.mnemonic i.operand (resolved i.opcode i.operand s) =
          [.read (effAddr i.operand s) m, .write (effAddr i.operand s) r]) ∧
      t.pc = nextPc i s ∧ t.remaining = (descriptor i.opcode).baseCycles

/-! ## Compares and branches (spec/43_compare.md, spec/44_branch.md) -/

/-- R170 to R172: C iff register >= m unsigned, Z iff equal, N is bit 7 of the difference modulo
256; no register and no memory changes. -/
def Obligations.ComparesSetCZN : Prop :=
  rowsOf .cmp = [(0xC1, .izx, 6, false), (0xC5, .zp0, 3, false), (0xC9, .imm, 2, false),
      (0xCD, .abs, 4, false), (0xD1, .izy, 5, true), (0xD5, .zpx, 4, false),
      (0xD9, .aby, 4, true), (0xDD, .abx, 4, true)] ∧
  rowsOf .cpx = [(0xE0, .imm, 2, false), (0xE4, .zp0, 3, false), (0xEC, .abs, 4, false)] ∧
  rowsOf .cpy = [(0xC0, .imm, 2, false), (0xC4, .zp0, 3, false), (0xCC, .abs, 4, false)] ∧
  ∀ (i : Instr) (s : State) (r m : Byte), i.mnemonic ∈ [Mnemonic.cmp, .cpx, .cpy] →
    r = (match i.mnemonic with | .cmp => s.a | .cpx => s.x | _ => s.y) →
    m = operandValue i.operand s →
    ∃ t, exec i s = .next t ∧
      (t.flag .c = true ↔ m.toNat ≤ r.toNat) ∧ (t.flag .z = true ↔ r = m) ∧
      (t.flag .n = true ↔ 128 ≤ (r.toNat + 256 - m.toNat) % 256) ∧
      t.pc = nextPc i s ∧ t.remaining = cost i s 0 ∧ Frame [] [.c, .z, .n] [] s t

/-- R180 to R188: which flag each branch tests; not taken PC is the next instruction at cost 2;
taken it is that plus the signed offset modulo 2^16, at cost 3, or 4 to another page than the next
instruction's; no flag, register or memory changes and no access follows the operand fetch. -/
def Obligations.BranchesTestOneFlag : Prop :=
  (rowsOf .bcc = [(0x90, .rel, 2, false)] ∧
  rowsOf .bcs = [(0xB0, .rel, 2, false)] ∧
  rowsOf .beq = [(0xF0, .rel, 2, false)] ∧
  rowsOf .bne = [(0xD0, .rel, 2, false)] ∧
  rowsOf .bmi = [(0x30, .rel, 2, false)] ∧
  rowsOf .bpl = [(0x10, .rel, 2, false)] ∧
  rowsOf .bvc = [(0x50, .rel, 2, false)] ∧
  rowsOf .bvs = [(0x70, .rel, 2, false)]) ∧
  ∀ (s : State) (b : Byte) (row : (Byte → Instr) × Flag × Bool),
    row ∈ [(Instr.bcc, Flag.c, false), (Instr.bcs, .c, true), (Instr.beq, .z, true),
      (Instr.bne, .z, false), (Instr.bmi, .n, true), (Instr.bpl, .n, false),
      (Instr.bvc, .v, false), (Instr.bvs, .v, true)] →
    ∃ t, exec (row.1 b) s = .next t ∧ Frame [] [] [] s t ∧
      (s.flag row.2.1 ≠ row.2.2 → t.pc = s.pc + 2 ∧ t.remaining = 2) ∧
      (s.flag row.2.1 = row.2.2 →
        (t.pc.toNat : Int) = (((s.pc + 2).toNat : Int) + b.toInt) % 65536 ∧
        t.remaining = if t.pc.toNat / 256 = (s.pc + 2).toNat / 256 then 3 else 4) ∧
      instrAccesses (row.1 b) s =
        [.read s.pc (s.mem.read s.pc), .read (s.pc + 1) (s.mem.read (s.pc + 1))]

/-! ## Stack, jumps, flags, NOP (spec/45 to 48) -/

/-- R190, R191: PHA pushes A, PHP pushes P with bits 4 and 5 set; P itself is unchanged. -/
def Obligations.PhaPhpPush : Prop :=
  rowsOf .pha = [(0x48, .imp, 3, false)] ∧
  rowsOf .php = [(0x08, .imp, 3, false)] ∧
  ∀ s : State,
    (∃ t, exec .pha s = .next t ∧ (s.mem.wf → t.mem.read (stackAddr s.sp) = s.a) ∧
      t.sp = s.sp - 1 ∧ t.p = s.p ∧ t.pc = s.pc + 1 ∧ t.remaining = 3 ∧
      Frame [.sp] [] [stackAddr s.sp] s t) ∧
    (∃ t, exec .php s = .next t ∧
      (s.mem.wf → t.mem.read (stackAddr s.sp) = s.p ||| 0x30#8) ∧
      t.sp = s.sp - 1 ∧ t.p = s.p ∧ t.pc = s.pc + 1 ∧ t.remaining = 3 ∧
      Frame [.sp] [] [stackAddr s.sp] s t)

/-- R192, R193: PLA pulls A with Z and N; PLP pulls P with B cleared and U set. -/
def Obligations.PlaPlpPull : Prop :=
  rowsOf .pla = [(0x68, .imp, 4, false)] ∧
  rowsOf .plp = [(0x28, .imp, 4, false)] ∧
  ∀ (s : State) (v : Byte), v = s.mem.read (stackAddr (s.sp + 1)) →
    (∃ t, exec .pla s = .next t ∧ t.a = v ∧ t.sp = s.sp + 1 ∧
      (t.flag .z = true ↔ v = 0x00#8) ∧ (t.flag .n = true ↔ 128 ≤ v.toNat) ∧
      t.pc = s.pc + 1 ∧ t.remaining = 4 ∧ Frame [.a, .sp] [.z, .n] [] s t) ∧
    (∃ t, exec .plp s = .next t ∧ t.sp = s.sp + 1 ∧ t.p = (v &&& 0xEF#8) ||| 0x20#8 ∧
      t.flag .b = false ∧ t.flag .u = true ∧
      (∀ f, f ≠ .b → f ≠ .u → t.flag f = getFlag f v) ∧
      t.pc = s.pc + 1 ∧ t.remaining = 4 ∧
      Frame [.sp] [.c, .z, .i, .d, .b, .u, .v, .n] [] s t)

/-- R194, R195: TSX copies SP to X with Z and N; TXS copies X to SP and writes no flag. -/
def Obligations.TsxTxsCopy : Prop :=
  rowsOf .tsx = [(0xBA, .imp, 2, false)] ∧
  rowsOf .txs = [(0x9A, .imp, 2, false)] ∧
  ∀ s : State,
    (∃ t, exec .tsx s = .next t ∧ t.x = s.sp ∧ (t.flag .z = true ↔ s.sp = 0x00#8) ∧
      (t.flag .n = true ↔ 128 ≤ s.sp.toNat) ∧ t.pc = s.pc + 1 ∧ t.remaining = 2 ∧
      Frame [.x] [.z, .n] [] s t ∧ instrAccesses .tsx s = [.read s.pc (s.mem.read s.pc)]) ∧
    (∃ t, exec .txs s = .next t ∧ t.sp = s.x ∧ t.p = s.p ∧ t.pc = s.pc + 1 ∧ t.remaining = 2 ∧
      Frame [.sp] [] [] s t)

/-- R200, R105: JMP loads PC with the operand, or with the pointer's content whose high byte is
read inside the pointer's page; nothing else changes. -/
def Obligations.JmpLoadsPc : Prop :=
  rowsOf .jmp = [(0x4C, .abs, 3, false), (0x6C, .ind, 5, false)] ∧
  ∀ (w : Word) (s : State),
    (∃ t, exec (.jmpAbs w) s = .next t ∧ t.pc = w ∧ t.remaining = 3 ∧ Frame [] [] [] s t ∧
      handlerAccesses .jmp (.abs w) (resolved 0x4C#8 (.abs w) s) = []) ∧
    (∃ t, exec (.jmpInd w) s = .next t ∧
      t.pc.toNat = (s.mem.read w).toNat +
        256 * (s.mem.read (BitVec.ofNat 16 (w.toNat / 256 * 256 + (w.toNat + 1) % 256))).toNat ∧
      t.remaining = 5 ∧ Frame [] [] [] s t)

/-- R201: JSR reads both operand bytes, pushes the address of its last byte, high byte first, and
jumps. -/
def Obligations.JsrPushesAndJumps : Prop :=
  rowsOf .jsr = [(0x20, .abs, 6, false)] ∧
  ∀ (w ret : Word) (s : State), ret = s.pc + 2 → ∃ t, exec (.jsr w) s = .next t ∧
    t.pc = w ∧ t.sp = s.sp - 2 ∧ t.remaining = 6 ∧
    (s.mem.wf → (t.mem.read (stackAddr s.sp)).toNat = ret.toNat / 256 ∧
      (t.mem.read (stackAddr (s.sp - 1))).toNat = ret.toNat % 256) ∧
    Frame [.sp] [] [stackAddr s.sp, stackAddr (s.sp - 1)] s t ∧
    instrAccesses (.jsr w) s =
      [.read s.pc (s.mem.read s.pc), .read (s.pc + 1) (s.mem.read (s.pc + 1)),
        .read (s.pc + 2) (s.mem.read (s.pc + 2)), .write (stackAddr s.sp) (hiByte ret),
        .write (stackAddr (s.sp - 1)) (loByte ret)]

/-- R202: RTS pulls low then high and resumes one past the pulled address. -/
def Obligations.RtsPullsAndResumes : Prop :=
  rowsOf .rts = [(0x60, .imp, 6, false)] ∧
  ∀ s : State, ∃ t, exec .rts s = .next t ∧
    t.pc.toNat = ((s.mem.read (stackAddr (s.sp + 1))).toNat +
      256 * (s.mem.read (stackAddr (s.sp + 2))).toNat + 1) % 65536 ∧
    t.sp = s.sp + 2 ∧ t.remaining = 6 ∧ Frame [.sp] [] [] s t

/-- R203, R245: RTI pulls P with B cleared and U set, then PC with no + 1. -/
def Obligations.RtiRestoresPAndPc : Prop :=
  rowsOf .rti = [(0x40, .imp, 6, false)] ∧
  ∀ (s : State) (v : Byte), v = s.mem.read (stackAddr (s.sp + 1)) → ∃ t, exec .rti s = .next t ∧
    t.p = (v &&& 0xEF#8) ||| 0x20#8 ∧ (∀ f, f ≠ .b → f ≠ .u → t.flag f = getFlag f v) ∧
    t.pc.toNat = (s.mem.read (stackAddr (s.sp + 2))).toNat +
      256 * (s.mem.read (stackAddr (s.sp + 3))).toNat ∧
    t.sp = s.sp + 3 ∧ t.remaining = 6 ∧
    Frame [.sp] [.c, .z, .i, .d, .b, .u, .v, .n] [] s t

/-- R201, R202: RTS in the state a JSR leaves returns to the instruction after it, with SP as
before, wherever SP wraps. -/
def Obligations.RtsUndoesJsr : Prop :=
  ∀ (w : Word) (s t : State), s.mem.wf → exec (.jsr w) s = .next t →
    ∃ u, exec .rts t = .next u ∧ u.pc = s.pc + 3 ∧ u.sp = s.sp ∧ u.p = s.p

/-- R210 to R216: each writes its one flag and nothing else, one byte, cost 2. -/
def Obligations.FlagInstructions : Prop :=
  (rowsOf .clc = [(0x18, .imp, 2, false)] ∧
  rowsOf .cld = [(0xD8, .imp, 2, false)] ∧
  rowsOf .cli = [(0x58, .imp, 2, false)] ∧
  rowsOf .clv = [(0xB8, .imp, 2, false)] ∧
  rowsOf .sec = [(0x38, .imp, 2, false)] ∧
  rowsOf .sed = [(0xF8, .imp, 2, false)] ∧
  rowsOf .sei = [(0x78, .imp, 2, false)]) ∧
  ∀ (s : State) (row : Instr × Flag × Bool),
    row ∈ [(Instr.clc, Flag.c, false), (Instr.cld, .d, false), (Instr.cli, .i, false),
      (Instr.clv, .v, false), (Instr.sec, .c, true), (Instr.sed, .d, true), (Instr.sei, .i, true)] →
    ∃ t, exec row.1 s = .next t ∧ t.flag row.2.1 = row.2.2 ∧ t.pc = s.pc + 1 ∧ t.remaining = 2 ∧
      Frame [] [row.2.1] [] s t ∧ instrAccesses row.1 s = [.read s.pc (s.mem.read s.pc)]

/-- R220: NOP advances PC by 1 at cost 2 and changes nothing else; one bus access. -/
def Obligations.NopOnlyAdvances : Prop :=
  rowsOf .nop = [(0xEA, .imp, 2, false)] ∧
  ∀ s : State, ∃ t, exec .nop s = .next t ∧ t.pc = s.pc + 1 ∧ t.remaining = 2 ∧
    Frame [] [] [] s t ∧ t.p = s.p ∧ t.mem = s.mem ∧
    instrAccesses .nop s = [.read s.pc (s.mem.read s.pc)]

/-! ## BRK, IRQ, NMI, reset, undocumented opcodes (spec/48, 60, 70) -/

/-- R221, R242: BRK, whatever I is, pushes its address plus 2 and P with B and U set, sets I, and
loads PC from 0xFFFE; D and the register's B are unchanged by the frame; the padding byte is not
read; cost 7. -/
def Obligations.BrkTakesTheIrqVector : Prop :=
  rowsOf .brk = [(0x00, .imp, 7, false)] ∧
  ∀ (s : State) (ret : Word), ret = s.pc + 2 → ∃ t, exec .brk s = .next t ∧
    t.flag .i = true ∧ t.sp = s.sp - 3 ∧ t.remaining = 7 ∧
    t.pc = s.mem.readWord 0xFFFE#16 ∧
    (s.mem.wf → (t.mem.read (stackAddr s.sp)).toNat = ret.toNat / 256 ∧
      (t.mem.read (stackAddr (s.sp - 1))).toNat = ret.toNat % 256 ∧
      t.mem.read (stackAddr (s.sp - 2)) = s.p ||| 0x30#8) ∧
    Frame [.sp] [.i] [stackAddr s.sp, stackAddr (s.sp - 1), stackAddr (s.sp - 2)] s t ∧
    instrAccesses .brk s =
      [.read s.pc (s.mem.read s.pc), .write (stackAddr s.sp) (hiByte ret),
        .write (stackAddr (s.sp - 1)) (loByte ret), .write (stackAddr (s.sp - 2)) (s.p ||| 0x30#8),
        .read 0xFFFE#16 (s.mem.read 0xFFFE#16), .read 0xFFFF#16 (s.mem.read 0xFFFF#16)]

/-- Derived (spec/48_nop_break_illegal.md R222: the mark with the opcode byte and address, PC at the
opcode, the registers, flags and `remaining` as they were, the one transaction; R280: `total_cycles`
too; R285: every later call changes nothing). Two things are the model's choice: that `exec` and
`step` answer the refusal and hold no state of their own is log 5, and that the record keeps the
scratch too is log 10 (R90's pseudocode has written `opcode` by then, and R37 leaves its value at a
boundary open). -/
def Obligations.UndocumentedOpcodeRefuses : Prop :=
  ∀ (s : State) (op : Byte), op ∈ undocumentedOpcodes →
    descriptor op = ⟨.undocumented, .imp, 2, false⟩ ∧
    exec (.undocumented op) s = .refused (.illegalOpcode op s.pc) ∧
    (s.AtBoundary → s.mem.read s.pc = op →
      step s = .refused (.illegalOpcode op s.pc) ∧
      perform .clock s = s.setRefused (some (.illegalOpcode op s.pc)) ∧
      callAccesses .clock s = [.read s.pc op] ∧
      ∀ c, perform c (perform .clock s) = perform .clock s)

/-- R270, R45, R271: reset at a boundary. Every register but PC is a constant whatever the prior
state; memory, total_cycles and the scratch are unchanged; two bus reads and no write. -/
def Obligations.ResetProtocol : Prop :=
  ∀ s : State, s.AtBoundary → ∃ t, hostCall .reset s = .next t ∧
    t.a = 0x00#8 ∧ t.x = 0x00#8 ∧ t.y = 0x00#8 ∧ t.sp = 0xFD#8 ∧ t.p = 0x24#8 ∧
    (t.pc.toNat = (s.mem.read 0xFFFC#16).toNat + 256 * (s.mem.read 0xFFFD#16).toNat) ∧
    t.remaining = 7 ∧ t.totalCycles = s.totalCycles ∧ t.refused = none ∧ t.busAttached = true ∧
    t.mem = s.mem ∧ t.opcode = s.opcode ∧ t.fetched = s.fetched ∧ t.addrAbs = s.addrAbs ∧
    t.addrRel = s.addrRel ∧ t.crossed = s.crossed ∧
    callAccesses .reset s =
      [.read 0xFFFC#16 (s.mem.read 0xFFFC#16), .read 0xFFFD#16 (s.mem.read 0xFFFD#16)]

/-- R44, R273: the state after construct. -/
def Obligations.ConstructedState : Prop :=
  State.construct.a = 0x00#8 ∧ State.construct.x = 0x00#8 ∧ State.construct.y = 0x00#8 ∧
  State.construct.sp = 0xFF#8 ∧ State.construct.pc = 0x0000#16 ∧ State.construct.p = 0x00#8 ∧
  State.construct.remaining = 0 ∧ State.construct.totalCycles = 0 ∧
  State.construct.opcode = 0x00#8 ∧ State.construct.fetched = 0x00#8 ∧
  State.construct.addrAbs = 0x0000#16 ∧ State.construct.addrRel = 0x0000#16 ∧
  State.construct.crossed = false ∧ State.construct.refused = none ∧
  State.construct.busAttached = false

/-- R233, R240: an accepted IRQ pushes PC and P with B = 0 and U = 1, sets I, loads PC from 0xFFFE
and is Busy for 7 pulses; a masked IRQ changes nothing and makes no transaction. -/
def Obligations.IrqEntry : Prop :=
  ∀ s : State, s.AtBoundary →
    (s.flag .i = true → hostCall .irq s = .next s ∧ callAccesses .irq s = []) ∧
    (s.flag .i = false → ∃ t, hostCall .irq s = .next t ∧
      t.flag .i = true ∧ t.sp = s.sp - 3 ∧ t.remaining = 7 ∧ t.pc = s.mem.readWord 0xFFFE#16 ∧
      (s.mem.wf → (t.mem.read (stackAddr s.sp)).toNat = s.pc.toNat / 256 ∧
        (t.mem.read (stackAddr (s.sp - 1))).toNat = s.pc.toNat % 256 ∧
        t.mem.read (stackAddr (s.sp - 2)) = (s.p &&& 0xEF#8) ||| 0x20#8) ∧
      Frame [.sp] [.i] [stackAddr s.sp, stackAddr (s.sp - 1), stackAddr (s.sp - 2)] s t)

/-- R233, R241: an NMI is taken with I = 0 or 1, through 0xFFFA, with the same pushes and cost. -/
def Obligations.NmiEntry : Prop :=
  ∀ s : State, s.AtBoundary → ∃ t, hostCall .nmi s = .next t ∧
      t.flag .i = true ∧ t.sp = s.sp - 3 ∧ t.remaining = 7 ∧ t.pc = s.mem.readWord 0xFFFA#16 ∧
      (s.mem.wf → (t.mem.read (stackAddr s.sp)).toNat = s.pc.toNat / 256 ∧
        (t.mem.read (stackAddr (s.sp - 1))).toNat = s.pc.toNat % 256 ∧
        t.mem.read (stackAddr (s.sp - 2)) = (s.p &&& 0xEF#8) ||| 0x20#8) ∧
      Frame [.sp] [.i] [stackAddr s.sp, stackAddr (s.sp - 1), stackAddr (s.sp - 2)] s t

/-- R245, R203: RTI in the state an IRQ or NMI entry leaves restores PC, SP, the index registers,
A and every flag the interrupted code had, but for B cleared and U set. -/
def Obligations.RtiUndoesInterruptEntry : Prop :=
  ∀ (c : HostCall) (s t : State), s.AtBoundary → s.mem.wf →
    (c = .nmi ∨ c = .irq ∧ s.flag .i = false) → hostCall c s = .next t →
    ∃ u, exec .rti t = .next u ∧ u.pc = s.pc ∧ KeepsRegs [] s u ∧ KeepsFlags [.b, .u] s u ∧
      u.flag .b = false ∧ u.flag .u = true

/-- R284: reset, irq and nmi while Busy are refused and change nothing but the mark. -/
def Obligations.BusyTriggersRefused : Prop :=
  ∀ s : State, s.Running → s.Busy →
    (hostCall .reset s = .refused (.busyTrigger .reset) ∧
      hostCall .irq s = .refused (.busyTrigger .irq) ∧
      hostCall .nmi s = .refused (.busyTrigger .nmi)) ∧
    (perform .reset s = s.setRefused (some (.busyTrigger .reset)) ∧
      perform .irq s = s.setRefused (some (.busyTrigger .irq)) ∧
      perform .nmi s = s.setRefused (some (.busyTrigger .nmi)))

/-- Derived (spec/70_reset_and_hazards.md R272): with no bus every call but attach_bus is refused and
changes nothing but the mark; attach_bus attaches the bus at any time, whatever the engine's state,
and leaves the registers and counters; once a refusal is recorded it changes nothing. Two things are
the model's choice: that the new bus brings its own bytes (`t.mem = m`) is log 16, and that a trigger
which is also Busy (R284) is refused with `NoBus` is log 7. -/
def Obligations.BusMustBeAttached : Prop :=
  ∀ (s : State) (m : Memory),
    (s.refused = none →
      (∀ c ∈ [HostCall.clock, .reset, .irq, .nmi], s.busAttached = false →
        hostCall c s = .refused .noBus ∧ perform c s = s.setRefused (some .noBus)) ∧
      ∃ t, hostCall (.attachBus m) s = .next t ∧ t.busAttached = true ∧ t.mem = m ∧
        t.pc = s.pc ∧ t.p = s.p ∧ t.remaining = s.remaining ∧ t.totalCycles = s.totalCycles ∧
        KeepsRegs [] s t) ∧
    (s.refused ≠ none → perform (.attachBus m) s = s)

/-- Derived (spec/70_reset_and_hazards.md R285, spec/10_state.md R40): once a refusal is recorded no
host call changes anything. That a call then answers the recorded refusal again, and no next state,
is the model's choice, log 6 (R285 says only that it returns). -/
def Obligations.RefusalIsSticky : Prop :=
  ∀ (s : State) (r : Refusal) (calls : List HostCall), s.refused = some r →
    performAll calls s = s ∧ ∀ c, hostCall c s = .refused r

/-! ## The step engine -/

/-- R280, R283: a Busy pulse changes only `remaining` and `total_cycles`, and issues no
transaction. -/
def Obligations.BusyPulseOnlyCounts : Prop :=
  ∀ s : State, s.Running → s.Busy →
    step s = .next ((s.setRemaining (s.remaining - 1)).setTotalCycles (s.totalCycles + 1)) ∧
      callAccesses .clock s = []

/-- Derived (spec/70_reset_and_hazards.md section 2; a step is one pulse, log 3): an instruction
of cost N occupies exactly N pulses: all its effects stand after the first, the others only count,
and after the Nth the engine is Idle. -/
def Obligations.InstructionOccupiesItsCost : Prop :=
  ∀ (s t : State), s.AtBoundary → exec (fetchInstr s) s = .next t →
    1 ≤ t.remaining ∧ ∀ k, 1 ≤ k → k ≤ t.remaining →
      Host.Core.run Sys2Proof.core k s =
        .next ((t.setRemaining (t.remaining - k)).setTotalCycles (s.totalCycles + k))

/-- Derived (spec/70_reset_and_hazards.md section 2, spec/10_state.md section 3): the cost is base
+ c1 + c2, c2 is nonzero only for a taken branch, and it lies between 2 and 7. -/
def Obligations.CostIsBaseAndPenalties : Prop :=
  ∀ (i : Instr) (s t : State), exec i s = .next t →
    ∃ c2, t.remaining = cost i s c2 ∧ c2 ≤ 2 ∧ 2 ≤ t.remaining ∧ t.remaining ≤ 7 ∧
      (c2 ≠ 0 → i.operand.mode = .rel ∧ t.pc = nextPc i s + sext16 (match i.operand with
        | .rel b => b
        | _ => 0x00#8))

/-! ## Invariants and whole-machine rules -/

/-- Derived (the spec's own inferences in spec/10_state.md sections 3 and 5, and the canonical
form of log 1): every pulse keeps U = 1, B = 0, the counter's bound and the canonical memory, from
every state that has them. -/
def Obligations.StepKeepsInvariant : Prop :=
  ∀ s t : State, s.Inv → step s = .next t → t.Inv

/-- Derived (spec/10_state.md section 5; `State.reset` is log 2's): the state after reset has the
invariant, and a pulse has a meaning there. -/
def Obligations.ResetStateHasInvariant : Prop :=
  State.reset.Inv ∧ State.reset.Running

/-- Derived (the spec's own inference at the end of spec/10_state.md section 5, and log 1's
canonical form): any sequence of well-formed host calls keeps the counter's bound and the
canonical memory, and once `reset` has been accepted, U = 1 and B = 0 hold ever after. -/
def Obligations.HostCallsKeepInvariant : Prop :=
  (∀ (calls : List HostCall), (∀ c ∈ calls, c.WellFormed) →
    (performAll calls State.construct).Bounded) ∧
  ∀ (s t : State) (calls : List HostCall), s.Bounded → hostCall .reset s = .next t →
    (∀ c ∈ calls, c.WellFormed) → (performAll calls t).Inv

/-- Derived (the table of spec/10_state.md section 4, the spec's own inference): which
instructions may write A, X, Y, SP, memory, and PC beyond its sequential advance; for every other
instruction they are unchanged. -/
def Obligations.RegisterWriters : Prop :=
  ∀ (i : Instr) (s t : State), exec i s = .next t →
    (i.mnemonic ∉ [Mnemonic.lda, .txa, .tya, .pla, .adc, .sbc, .and, .ora, .eor, .asl, .lsr, .rol,
      .ror] → t.a = s.a) ∧
    (i.mnemonic ∈ [Mnemonic.asl, .lsr, .rol, .ror] → i.operand ≠ .acc → t.a = s.a) ∧
    (i.mnemonic ∉ [Mnemonic.ldx, .tax, .tsx, .inx, .dex] → t.x = s.x) ∧
    (i.mnemonic ∉ [Mnemonic.ldy, .tay, .iny, .dey] → t.y = s.y) ∧
    (i.mnemonic ∉ [Mnemonic.txs, .pha, .php, .pla, .plp, .jsr, .rts, .rti, .brk] → t.sp = s.sp) ∧
    (i.mnemonic ∉ [Mnemonic.sta, .stx, .sty, .inc, .dec, .asl, .lsr, .rol, .ror, .pha, .php, .jsr,
      .brk] → t.mem = s.mem) ∧
    (i.mnemonic ∉ [Mnemonic.bcc, .bcs, .beq, .bne, .bmi, .bpl, .bvc, .bvs, .jmp, .jsr, .rts, .rti,
      .brk] → t.pc = nextPc i s) ∧
    KeepsHost s t

/-- Derived (spec/10_state.md section 2, the spec's own inferences): which instructions may write
each flag; for every other instruction it is unchanged. -/
def Obligations.FlagWriters : Prop :=
  ∀ (i : Instr) (s t : State), exec i s = .next t →
    (i.mnemonic ∉ [Mnemonic.adc, .sbc, .asl, .lsr, .rol, .ror, .cmp, .cpx, .cpy, .clc, .sec, .plp,
      .rti] → t.flag .c = s.flag .c) ∧
    (i.mnemonic ∉ [Mnemonic.lda, .ldx, .ldy, .tax, .tay, .txa, .tya, .tsx, .pla, .adc, .sbc, .and,
      .ora, .eor, .inc, .dec, .inx, .iny, .dex, .dey, .asl, .lsr, .rol, .ror, .cmp, .cpx, .cpy, .bit,
      .plp, .rti] → t.flag .z = s.flag .z ∧ t.flag .n = s.flag .n) ∧
    (i.mnemonic ∉ [Mnemonic.cli, .sei, .plp, .rti, .brk] → t.flag .i = s.flag .i) ∧
    (i.mnemonic ∉ [Mnemonic.cld, .sed, .plp, .rti] → t.flag .d = s.flag .d) ∧
    (i.mnemonic ∉ [Mnemonic.adc, .sbc, .bit, .clv, .plp, .rti] → t.flag .v = s.flag .v) ∧
    (i.mnemonic ∉ [Mnemonic.plp, .rti] → t.flag .b = s.flag .b ∧ t.flag .u = s.flag .u) ∧
    (i.mnemonic ∈ [Mnemonic.plp, .rti] → t.flag .b = false ∧ t.flag .u = true)

/-- Derived (spec/10_state.md section 3: scratch is written before it is read; that the model
keeps its values is log 10): the scratch fields after an instruction: `opcode` is its byte,
`addr_rel` and `addr_abs` change only in modes that produce them, `crossed` is the resolver's
signal; and no result depends on their values before. -/
def Obligations.ScratchIsWrittenBeforeRead : Prop :=
  ∀ (i : Instr) (s t : State) (op f : Byte) (ea rel : Word) (cr : Bool), exec i s = .next t →
    (t.opcode = i.opcode ∧ t.crossed = pageCrossed i.operand s ∧
      (i.operand.mode ≠ .rel → t.addrRel = s.addrRel) ∧
      (i.operand.mode ∈ [Mode.imp, .acc, .rel] → t.addrAbs = s.addrAbs ∧ t.fetched = s.fetched)) ∧
    ∃ u, exec i (((((s.setOpcode op).setFetched f).setAddrAbs ea).setAddrRel rel).setCrossed cr) =
        .next u ∧ KeepsRegs [] t u ∧ u.p = t.p ∧ u.pc = t.pc ∧ u.mem = t.mem ∧
      u.remaining = t.remaining

/-- Derived (spec/20_memory.md sections 2 and 4, spec/30_encoding.md section 3; the flat bus is
log 8's): the transactions listed for a host call account for it: the memory after is the memory
before with the listed writes in order, and each listed read returns the last byte written. -/
def Obligations.TransactionsAccountForMemory : Prop :=
  ∀ (c : HostCall) (s t : State), (∀ m, c ≠ .attachBus m) → hostCall c s = .next t →
    t.mem = replay s.mem (callAccesses c s) ∧ readsAgree s.mem (callAccesses c s)
end

