-- ==== Sys2Proof/Laws/Words.lean ====
section
/-!
SUPPORT. The byte-order, extension and page helpers as arithmetic on natural numbers
(spec/00_scope.md R9).
-/

-- One theorem at a time: with many in flight the compile asks for a thread each and may get none.
set_option Elab.async false

namespace Sys2Proof

@[simp] theorem wordOf_toNat (hi lo : Byte) : (wordOf hi lo).toNat = hi.toNat * 256 + lo.toNat := by
  have h : (hi ++ lo : BitVec (8 + 8)).toNat = hi.toNat <<< 8 ||| lo.toNat := BitVec.toNat_append hi lo
  rw [wordOf, h, ← Nat.shiftLeft_add_eq_or_of_lt lo.isLt, Nat.shiftLeft_eq]

@[simp] theorem hiByte_toNat (w : Word) : (hiByte w).toNat = w.toNat / 256 := by
  have := w.isLt
  simp only [hiByte, BitVec.toNat_setWidth, BitVec.toNat_ushiftRight, Nat.shiftRight_eq_div_pow]
  omega

@[simp] theorem loByte_toNat (w : Word) : (loByte w).toNat = w.toNat % 256 := by
  simp [loByte]

@[simp] theorem zext16_toNat (b : Byte) : (zext16 b).toNat = b.toNat := by
  have := b.isLt
  simp only [zext16, BitVec.toNat_setWidth]
  omega

@[simp] theorem wordOf_hiByte_loByte (w : Word) : wordOf (hiByte w) (loByte w) = w := by
  apply BitVec.eq_of_toNat_eq
  simp
  omega

@[simp] theorem hiByte_wordOf (hi lo : Byte) : hiByte (wordOf hi lo) = hi := by
  apply BitVec.eq_of_toNat_eq
  have := lo.isLt
  simp
  omega

@[simp] theorem loByte_wordOf (hi lo : Byte) : loByte (wordOf hi lo) = lo := by
  apply BitVec.eq_of_toNat_eq
  have := lo.isLt
  simp
  omega

/-- Two addresses are in one page iff their high bytes agree (R14). -/
theorem samePage_iff (v w : Word) : samePage v w = true ↔ v.toNat / 256 = w.toNat / 256 := by
  have key : ∀ x : Word, x &&& 0xFF00#16 = (x >>> 8) <<< 8 := by
    intro x
    apply BitVec.eq_of_getLsbD_eq
    intro k hk
    interval_cases k <;> simp
  have toNat_key : ∀ x : Word, (x &&& 0xFF00#16).toNat = x.toNat / 256 * 256 := by
    intro x
    have := x.isLt
    rw [key]
    simp only [BitVec.toNat_shiftLeft, BitVec.toNat_ushiftRight, Nat.shiftLeft_eq,
      Nat.shiftRight_eq_div_pow]
    omega
  rw [samePage, beq_iff_eq, ← BitVec.toNat_inj, toNat_key, toNat_key]
  omega

/-- `sext_16(b)`: `b` below 0x80, else `b + 0xFF00` (R9). -/
theorem sext16_toNat (b : Byte) :
    (sext16 b).toNat = if b.toNat < 128 then b.toNat else b.toNat + 65280 := by
  revert b
  decide

/-- Adding a sign-extended byte to an address is adding the signed offset modulo 2^16 (R108). -/
theorem add_sext16_toNat (w : Word) (b : Byte) :
    ((w + sext16 b).toNat : Int) = ((w.toNat : Int) + b.toInt) % 65536 := by
  have h : ((sext16 b).toNat : Int) = b.toInt % 65536 := by
    revert b
    decide
  rw [BitVec.toNat_add]
  push_cast
  rw [h]
  norm_num

/-- Bit 7 of a byte, the N flag (R10). -/
theorem msb_eq_true_iff (v : Byte) : v.msb = true ↔ 128 ≤ v.toNat := by
  rw [BitVec.msb_eq_decide]
  simp

end Sys2Proof
end

