-- ==== Sys2Proof/Laws/Decode.lean ====
section
/-!
SUPPORT. What the decoder answers for each operand width (spec/30_encoding.md R80 to R82).
-/

-- One theorem at a time: with many in flight the compile asks for a thread each and may get none.
set_option Elab.async false

namespace Sys2Proof

/-- An opcode without operand bytes. -/
theorem decode_width_zero {op : Byte} (rest : List Byte) (h : (descriptor op).mode.width = 0) :
    decode (op :: rest) = .ok (decodeInstr op 0x00#8 0x00#8, rest) := by
  unfold decode
  simp only [h]

/-- An opcode with one operand byte. -/
theorem decode_width_one {op : Byte} (lo : Byte) (rest : List Byte)
    (h : (descriptor op).mode.width = 1) :
    decode (op :: lo :: rest) = .ok (decodeInstr op lo 0x00#8, rest) := by
  unfold decode
  simp only [h]

/-- An opcode with two operand bytes, low byte first. -/
theorem decode_width_two {op : Byte} (lo hi : Byte) (rest : List Byte)
    (h : (descriptor op).mode.width = 2) :
    decode (op :: lo :: hi :: rest) = .ok (decodeInstr op lo hi, rest) := by
  unfold decode
  simp only [h]

/-- The one check of well-formedness (R82, R86). -/
theorem wellFormed_iff (i : Instr) :
    i.WellFormed ↔ (i.mnemonic = .undocumented → i.opcode ∈ undocumentedOpcodes) := by
  cases i <;> simp [Instr.WellFormed, Instr.mnemonic, Instr.opcode]

end Sys2Proof
end

