-- ==== Sys2Proof/Laws/State.lean ====
section
/-!
SUPPORT. What each named update of State leaves in each field: one lemma per field per update, true by
rfl, so that no later proof unfolds a record update.
-/

-- One theorem at a time: with many in flight the compile asks for a thread each and may get none.
set_option Elab.async false

namespace Sys2Proof.Machine

variable (s : State)

/-! ### `setA` -/

section

variable (v : Byte)

@[simp] theorem State.setA_a : (s.setA v).a = v := rfl
@[simp] theorem State.setA_x : (s.setA v).x = s.x := rfl
@[simp] theorem State.setA_y : (s.setA v).y = s.y := rfl
@[simp] theorem State.setA_sp : (s.setA v).sp = s.sp := rfl
@[simp] theorem State.setA_pc : (s.setA v).pc = s.pc := rfl
@[simp] theorem State.setA_p : (s.setA v).p = s.p := rfl
@[simp] theorem State.setA_opcode : (s.setA v).opcode = s.opcode := rfl
@[simp] theorem State.setA_fetched : (s.setA v).fetched = s.fetched := rfl
@[simp] theorem State.setA_addrAbs : (s.setA v).addrAbs = s.addrAbs := rfl
@[simp] theorem State.setA_addrRel : (s.setA v).addrRel = s.addrRel := rfl
@[simp] theorem State.setA_crossed : (s.setA v).crossed = s.crossed := rfl
@[simp] theorem State.setA_remaining : (s.setA v).remaining = s.remaining := rfl
@[simp] theorem State.setA_totalCycles : (s.setA v).totalCycles = s.totalCycles := rfl
@[simp] theorem State.setA_refused : (s.setA v).refused = s.refused := rfl
@[simp] theorem State.setA_busAttached : (s.setA v).busAttached = s.busAttached := rfl
@[simp] theorem State.setA_mem : (s.setA v).mem = s.mem := rfl

end

/-! ### `setX` -/

section

variable (v : Byte)

@[simp] theorem State.setX_a : (s.setX v).a = s.a := rfl
@[simp] theorem State.setX_x : (s.setX v).x = v := rfl
@[simp] theorem State.setX_y : (s.setX v).y = s.y := rfl
@[simp] theorem State.setX_sp : (s.setX v).sp = s.sp := rfl
@[simp] theorem State.setX_pc : (s.setX v).pc = s.pc := rfl
@[simp] theorem State.setX_p : (s.setX v).p = s.p := rfl
@[simp] theorem State.setX_opcode : (s.setX v).opcode = s.opcode := rfl
@[simp] theorem State.setX_fetched : (s.setX v).fetched = s.fetched := rfl
@[simp] theorem State.setX_addrAbs : (s.setX v).addrAbs = s.addrAbs := rfl
@[simp] theorem State.setX_addrRel : (s.setX v).addrRel = s.addrRel := rfl
@[simp] theorem State.setX_crossed : (s.setX v).crossed = s.crossed := rfl
@[simp] theorem State.setX_remaining : (s.setX v).remaining = s.remaining := rfl
@[simp] theorem State.setX_totalCycles : (s.setX v).totalCycles = s.totalCycles := rfl
@[simp] theorem State.setX_refused : (s.setX v).refused = s.refused := rfl
@[simp] theorem State.setX_busAttached : (s.setX v).busAttached = s.busAttached := rfl
@[simp] theorem State.setX_mem : (s.setX v).mem = s.mem := rfl

end

/-! ### `setY` -/

section

variable (v : Byte)

@[simp] theorem State.setY_a : (s.setY v).a = s.a := rfl
@[simp] theorem State.setY_x : (s.setY v).x = s.x := rfl
@[simp] theorem State.setY_y : (s.setY v).y = v := rfl
@[simp] theorem State.setY_sp : (s.setY v).sp = s.sp := rfl
@[simp] theorem State.setY_pc : (s.setY v).pc = s.pc := rfl
@[simp] theorem State.setY_p : (s.setY v).p = s.p := rfl
@[simp] theorem State.setY_opcode : (s.setY v).opcode = s.opcode := rfl
@[simp] theorem State.setY_fetched : (s.setY v).fetched = s.fetched := rfl
@[simp] theorem State.setY_addrAbs : (s.setY v).addrAbs = s.addrAbs := rfl
@[simp] theorem State.setY_addrRel : (s.setY v).addrRel = s.addrRel := rfl
@[simp] theorem State.setY_crossed : (s.setY v).crossed = s.crossed := rfl
@[simp] theorem State.setY_remaining : (s.setY v).remaining = s.remaining := rfl
@[simp] theorem State.setY_totalCycles : (s.setY v).totalCycles = s.totalCycles := rfl
@[simp] theorem State.setY_refused : (s.setY v).refused = s.refused := rfl
@[simp] theorem State.setY_busAttached : (s.setY v).busAttached = s.busAttached := rfl
@[simp] theorem State.setY_mem : (s.setY v).mem = s.mem := rfl

end

/-! ### `setSp` -/

section

variable (v : Byte)

@[simp] theorem State.setSp_a : (s.setSp v).a = s.a := rfl
@[simp] theorem State.setSp_x : (s.setSp v).x = s.x := rfl
@[simp] theorem State.setSp_y : (s.setSp v).y = s.y := rfl
@[simp] theorem State.setSp_sp : (s.setSp v).sp = v := rfl
@[simp] theorem State.setSp_pc : (s.setSp v).pc = s.pc := rfl
@[simp] theorem State.setSp_p : (s.setSp v).p = s.p := rfl
@[simp] theorem State.setSp_opcode : (s.setSp v).opcode = s.opcode := rfl
@[simp] theorem State.setSp_fetched : (s.setSp v).fetched = s.fetched := rfl
@[simp] theorem State.setSp_addrAbs : (s.setSp v).addrAbs = s.addrAbs := rfl
@[simp] theorem State.setSp_addrRel : (s.setSp v).addrRel = s.addrRel := rfl
@[simp] theorem State.setSp_crossed : (s.setSp v).crossed = s.crossed := rfl
@[simp] theorem State.setSp_remaining : (s.setSp v).remaining = s.remaining := rfl
@[simp] theorem State.setSp_totalCycles : (s.setSp v).totalCycles = s.totalCycles := rfl
@[simp] theorem State.setSp_refused : (s.setSp v).refused = s.refused := rfl
@[simp] theorem State.setSp_busAttached : (s.setSp v).busAttached = s.busAttached := rfl
@[simp] theorem State.setSp_mem : (s.setSp v).mem = s.mem := rfl

end

/-! ### `setPc` -/

section

variable (v : Word)

@[simp] theorem State.setPc_a : (s.setPc v).a = s.a := rfl
@[simp] theorem State.setPc_x : (s.setPc v).x = s.x := rfl
@[simp] theorem State.setPc_y : (s.setPc v).y = s.y := rfl
@[simp] theorem State.setPc_sp : (s.setPc v).sp = s.sp := rfl
@[simp] theorem State.setPc_pc : (s.setPc v).pc = v := rfl
@[simp] theorem State.setPc_p : (s.setPc v).p = s.p := rfl
@[simp] theorem State.setPc_opcode : (s.setPc v).opcode = s.opcode := rfl
@[simp] theorem State.setPc_fetched : (s.setPc v).fetched = s.fetched := rfl
@[simp] theorem State.setPc_addrAbs : (s.setPc v).addrAbs = s.addrAbs := rfl
@[simp] theorem State.setPc_addrRel : (s.setPc v).addrRel = s.addrRel := rfl
@[simp] theorem State.setPc_crossed : (s.setPc v).crossed = s.crossed := rfl
@[simp] theorem State.setPc_remaining : (s.setPc v).remaining = s.remaining := rfl
@[simp] theorem State.setPc_totalCycles : (s.setPc v).totalCycles = s.totalCycles := rfl
@[simp] theorem State.setPc_refused : (s.setPc v).refused = s.refused := rfl
@[simp] theorem State.setPc_busAttached : (s.setPc v).busAttached = s.busAttached := rfl
@[simp] theorem State.setPc_mem : (s.setPc v).mem = s.mem := rfl

end

/-! ### `setP` -/

section

variable (v : Byte)

@[simp] theorem State.setP_a : (s.setP v).a = s.a := rfl
@[simp] theorem State.setP_x : (s.setP v).x = s.x := rfl
@[simp] theorem State.setP_y : (s.setP v).y = s.y := rfl
@[simp] theorem State.setP_sp : (s.setP v).sp = s.sp := rfl
@[simp] theorem State.setP_pc : (s.setP v).pc = s.pc := rfl
@[simp] theorem State.setP_p : (s.setP v).p = v := rfl
@[simp] theorem State.setP_opcode : (s.setP v).opcode = s.opcode := rfl
@[simp] theorem State.setP_fetched : (s.setP v).fetched = s.fetched := rfl
@[simp] theorem State.setP_addrAbs : (s.setP v).addrAbs = s.addrAbs := rfl
@[simp] theorem State.setP_addrRel : (s.setP v).addrRel = s.addrRel := rfl
@[simp] theorem State.setP_crossed : (s.setP v).crossed = s.crossed := rfl
@[simp] theorem State.setP_remaining : (s.setP v).remaining = s.remaining := rfl
@[simp] theorem State.setP_totalCycles : (s.setP v).totalCycles = s.totalCycles := rfl
@[simp] theorem State.setP_refused : (s.setP v).refused = s.refused := rfl
@[simp] theorem State.setP_busAttached : (s.setP v).busAttached = s.busAttached := rfl
@[simp] theorem State.setP_mem : (s.setP v).mem = s.mem := rfl

end

/-! ### `setOpcode` -/

section

variable (v : Byte)

@[simp] theorem State.setOpcode_a : (s.setOpcode v).a = s.a := rfl
@[simp] theorem State.setOpcode_x : (s.setOpcode v).x = s.x := rfl
@[simp] theorem State.setOpcode_y : (s.setOpcode v).y = s.y := rfl
@[simp] theorem State.setOpcode_sp : (s.setOpcode v).sp = s.sp := rfl
@[simp] theorem State.setOpcode_pc : (s.setOpcode v).pc = s.pc := rfl
@[simp] theorem State.setOpcode_p : (s.setOpcode v).p = s.p := rfl
@[simp] theorem State.setOpcode_opcode : (s.setOpcode v).opcode = v := rfl
@[simp] theorem State.setOpcode_fetched : (s.setOpcode v).fetched = s.fetched := rfl
@[simp] theorem State.setOpcode_addrAbs : (s.setOpcode v).addrAbs = s.addrAbs := rfl
@[simp] theorem State.setOpcode_addrRel : (s.setOpcode v).addrRel = s.addrRel := rfl
@[simp] theorem State.setOpcode_crossed : (s.setOpcode v).crossed = s.crossed := rfl
@[simp] theorem State.setOpcode_remaining : (s.setOpcode v).remaining = s.remaining := rfl
@[simp] theorem State.setOpcode_totalCycles : (s.setOpcode v).totalCycles = s.totalCycles := rfl
@[simp] theorem State.setOpcode_refused : (s.setOpcode v).refused = s.refused := rfl
@[simp] theorem State.setOpcode_busAttached : (s.setOpcode v).busAttached = s.busAttached := rfl
@[simp] theorem State.setOpcode_mem : (s.setOpcode v).mem = s.mem := rfl

end

/-! ### `setFetched` -/

section

variable (v : Byte)

@[simp] theorem State.setFetched_a : (s.setFetched v).a = s.a := rfl
@[simp] theorem State.setFetched_x : (s.setFetched v).x = s.x := rfl
@[simp] theorem State.setFetched_y : (s.setFetched v).y = s.y := rfl
@[simp] theorem State.setFetched_sp : (s.setFetched v).sp = s.sp := rfl
@[simp] theorem State.setFetched_pc : (s.setFetched v).pc = s.pc := rfl
@[simp] theorem State.setFetched_p : (s.setFetched v).p = s.p := rfl
@[simp] theorem State.setFetched_opcode : (s.setFetched v).opcode = s.opcode := rfl
@[simp] theorem State.setFetched_fetched : (s.setFetched v).fetched = v := rfl
@[simp] theorem State.setFetched_addrAbs : (s.setFetched v).addrAbs = s.addrAbs := rfl
@[simp] theorem State.setFetched_addrRel : (s.setFetched v).addrRel = s.addrRel := rfl
@[simp] theorem State.setFetched_crossed : (s.setFetched v).crossed = s.crossed := rfl
@[simp] theorem State.setFetched_remaining : (s.setFetched v).remaining = s.remaining := rfl
@[simp] theorem State.setFetched_totalCycles : (s.setFetched v).totalCycles = s.totalCycles := rfl
@[simp] theorem State.setFetched_refused : (s.setFetched v).refused = s.refused := rfl
@[simp] theorem State.setFetched_busAttached : (s.setFetched v).busAttached = s.busAttached := rfl
@[simp] theorem State.setFetched_mem : (s.setFetched v).mem = s.mem := rfl

end

/-! ### `setAddrAbs` -/

section

variable (v : Word)

@[simp] theorem State.setAddrAbs_a : (s.setAddrAbs v).a = s.a := rfl
@[simp] theorem State.setAddrAbs_x : (s.setAddrAbs v).x = s.x := rfl
@[simp] theorem State.setAddrAbs_y : (s.setAddrAbs v).y = s.y := rfl
@[simp] theorem State.setAddrAbs_sp : (s.setAddrAbs v).sp = s.sp := rfl
@[simp] theorem State.setAddrAbs_pc : (s.setAddrAbs v).pc = s.pc := rfl
@[simp] theorem State.setAddrAbs_p : (s.setAddrAbs v).p = s.p := rfl
@[simp] theorem State.setAddrAbs_opcode : (s.setAddrAbs v).opcode = s.opcode := rfl
@[simp] theorem State.setAddrAbs_fetched : (s.setAddrAbs v).fetched = s.fetched := rfl
@[simp] theorem State.setAddrAbs_addrAbs : (s.setAddrAbs v).addrAbs = v := rfl
@[simp] theorem State.setAddrAbs_addrRel : (s.setAddrAbs v).addrRel = s.addrRel := rfl
@[simp] theorem State.setAddrAbs_crossed : (s.setAddrAbs v).crossed = s.crossed := rfl
@[simp] theorem State.setAddrAbs_remaining : (s.setAddrAbs v).remaining = s.remaining := rfl
@[simp] theorem State.setAddrAbs_totalCycles : (s.setAddrAbs v).totalCycles = s.totalCycles := rfl
@[simp] theorem State.setAddrAbs_refused : (s.setAddrAbs v).refused = s.refused := rfl
@[simp] theorem State.setAddrAbs_busAttached : (s.setAddrAbs v).busAttached = s.busAttached := rfl
@[simp] theorem State.setAddrAbs_mem : (s.setAddrAbs v).mem = s.mem := rfl

end

/-! ### `setAddrRel` -/

section

variable (v : Word)

@[simp] theorem State.setAddrRel_a : (s.setAddrRel v).a = s.a := rfl
@[simp] theorem State.setAddrRel_x : (s.setAddrRel v).x = s.x := rfl
@[simp] theorem State.setAddrRel_y : (s.setAddrRel v).y = s.y := rfl
@[simp] theorem State.setAddrRel_sp : (s.setAddrRel v).sp = s.sp := rfl
@[simp] theorem State.setAddrRel_pc : (s.setAddrRel v).pc = s.pc := rfl
@[simp] theorem State.setAddrRel_p : (s.setAddrRel v).p = s.p := rfl
@[simp] theorem State.setAddrRel_opcode : (s.setAddrRel v).opcode = s.opcode := rfl
@[simp] theorem State.setAddrRel_fetched : (s.setAddrRel v).fetched = s.fetched := rfl
@[simp] theorem State.setAddrRel_addrAbs : (s.setAddrRel v).addrAbs = s.addrAbs := rfl
@[simp] theorem State.setAddrRel_addrRel : (s.setAddrRel v).addrRel = v := rfl
@[simp] theorem State.setAddrRel_crossed : (s.setAddrRel v).crossed = s.crossed := rfl
@[simp] theorem State.setAddrRel_remaining : (s.setAddrRel v).remaining = s.remaining := rfl
@[simp] theorem State.setAddrRel_totalCycles : (s.setAddrRel v).totalCycles = s.totalCycles := rfl
@[simp] theorem State.setAddrRel_refused : (s.setAddrRel v).refused = s.refused := rfl
@[simp] theorem State.setAddrRel_busAttached : (s.setAddrRel v).busAttached = s.busAttached := rfl
@[simp] theorem State.setAddrRel_mem : (s.setAddrRel v).mem = s.mem := rfl

end

/-! ### `setCrossed` -/

section

variable (v : Bool)

@[simp] theorem State.setCrossed_a : (s.setCrossed v).a = s.a := rfl
@[simp] theorem State.setCrossed_x : (s.setCrossed v).x = s.x := rfl
@[simp] theorem State.setCrossed_y : (s.setCrossed v).y = s.y := rfl
@[simp] theorem State.setCrossed_sp : (s.setCrossed v).sp = s.sp := rfl
@[simp] theorem State.setCrossed_pc : (s.setCrossed v).pc = s.pc := rfl
@[simp] theorem State.setCrossed_p : (s.setCrossed v).p = s.p := rfl
@[simp] theorem State.setCrossed_opcode : (s.setCrossed v).opcode = s.opcode := rfl
@[simp] theorem State.setCrossed_fetched : (s.setCrossed v).fetched = s.fetched := rfl
@[simp] theorem State.setCrossed_addrAbs : (s.setCrossed v).addrAbs = s.addrAbs := rfl
@[simp] theorem State.setCrossed_addrRel : (s.setCrossed v).addrRel = s.addrRel := rfl
@[simp] theorem State.setCrossed_crossed : (s.setCrossed v).crossed = v := rfl
@[simp] theorem State.setCrossed_remaining : (s.setCrossed v).remaining = s.remaining := rfl
@[simp] theorem State.setCrossed_totalCycles : (s.setCrossed v).totalCycles = s.totalCycles := rfl
@[simp] theorem State.setCrossed_refused : (s.setCrossed v).refused = s.refused := rfl
@[simp] theorem State.setCrossed_busAttached : (s.setCrossed v).busAttached = s.busAttached := rfl
@[simp] theorem State.setCrossed_mem : (s.setCrossed v).mem = s.mem := rfl

end

/-! ### `setRemaining` -/

section

variable (v : Nat)

@[simp] theorem State.setRemaining_a : (s.setRemaining v).a = s.a := rfl
@[simp] theorem State.setRemaining_x : (s.setRemaining v).x = s.x := rfl
@[simp] theorem State.setRemaining_y : (s.setRemaining v).y = s.y := rfl
@[simp] theorem State.setRemaining_sp : (s.setRemaining v).sp = s.sp := rfl
@[simp] theorem State.setRemaining_pc : (s.setRemaining v).pc = s.pc := rfl
@[simp] theorem State.setRemaining_p : (s.setRemaining v).p = s.p := rfl
@[simp] theorem State.setRemaining_opcode : (s.setRemaining v).opcode = s.opcode := rfl
@[simp] theorem State.setRemaining_fetched : (s.setRemaining v).fetched = s.fetched := rfl
@[simp] theorem State.setRemaining_addrAbs : (s.setRemaining v).addrAbs = s.addrAbs := rfl
@[simp] theorem State.setRemaining_addrRel : (s.setRemaining v).addrRel = s.addrRel := rfl
@[simp] theorem State.setRemaining_crossed : (s.setRemaining v).crossed = s.crossed := rfl
@[simp] theorem State.setRemaining_remaining : (s.setRemaining v).remaining = v := rfl
@[simp] theorem State.setRemaining_totalCycles : (s.setRemaining v).totalCycles = s.totalCycles := rfl
@[simp] theorem State.setRemaining_refused : (s.setRemaining v).refused = s.refused := rfl
@[simp] theorem State.setRemaining_busAttached : (s.setRemaining v).busAttached = s.busAttached := rfl
@[simp] theorem State.setRemaining_mem : (s.setRemaining v).mem = s.mem := rfl

end

/-! ### `setTotalCycles` -/

section

variable (v : Nat)

@[simp] theorem State.setTotalCycles_a : (s.setTotalCycles v).a = s.a := rfl
@[simp] theorem State.setTotalCycles_x : (s.setTotalCycles v).x = s.x := rfl
@[simp] theorem State.setTotalCycles_y : (s.setTotalCycles v).y = s.y := rfl
@[simp] theorem State.setTotalCycles_sp : (s.setTotalCycles v).sp = s.sp := rfl
@[simp] theorem State.setTotalCycles_pc : (s.setTotalCycles v).pc = s.pc := rfl
@[simp] theorem State.setTotalCycles_p : (s.setTotalCycles v).p = s.p := rfl
@[simp] theorem State.setTotalCycles_opcode : (s.setTotalCycles v).opcode = s.opcode := rfl
@[simp] theorem State.setTotalCycles_fetched : (s.setTotalCycles v).fetched = s.fetched := rfl
@[simp] theorem State.setTotalCycles_addrAbs : (s.setTotalCycles v).addrAbs = s.addrAbs := rfl
@[simp] theorem State.setTotalCycles_addrRel : (s.setTotalCycles v).addrRel = s.addrRel := rfl
@[simp] theorem State.setTotalCycles_crossed : (s.setTotalCycles v).crossed = s.crossed := rfl
@[simp] theorem State.setTotalCycles_remaining : (s.setTotalCycles v).remaining = s.remaining := rfl
@[simp] theorem State.setTotalCycles_totalCycles : (s.setTotalCycles v).totalCycles = v := rfl
@[simp] theorem State.setTotalCycles_refused : (s.setTotalCycles v).refused = s.refused := rfl
@[simp] theorem State.setTotalCycles_busAttached : (s.setTotalCycles v).busAttached = s.busAttached := rfl
@[simp] theorem State.setTotalCycles_mem : (s.setTotalCycles v).mem = s.mem := rfl

end

/-! ### `setRefused` -/

section

variable (v : Option Refusal)

@[simp] theorem State.setRefused_a : (s.setRefused v).a = s.a := rfl
@[simp] theorem State.setRefused_x : (s.setRefused v).x = s.x := rfl
@[simp] theorem State.setRefused_y : (s.setRefused v).y = s.y := rfl
@[simp] theorem State.setRefused_sp : (s.setRefused v).sp = s.sp := rfl
@[simp] theorem State.setRefused_pc : (s.setRefused v).pc = s.pc := rfl
@[simp] theorem State.setRefused_p : (s.setRefused v).p = s.p := rfl
@[simp] theorem State.setRefused_opcode : (s.setRefused v).opcode = s.opcode := rfl
@[simp] theorem State.setRefused_fetched : (s.setRefused v).fetched = s.fetched := rfl
@[simp] theorem State.setRefused_addrAbs : (s.setRefused v).addrAbs = s.addrAbs := rfl
@[simp] theorem State.setRefused_addrRel : (s.setRefused v).addrRel = s.addrRel := rfl
@[simp] theorem State.setRefused_crossed : (s.setRefused v).crossed = s.crossed := rfl
@[simp] theorem State.setRefused_remaining : (s.setRefused v).remaining = s.remaining := rfl
@[simp] theorem State.setRefused_totalCycles : (s.setRefused v).totalCycles = s.totalCycles := rfl
@[simp] theorem State.setRefused_refused : (s.setRefused v).refused = v := rfl
@[simp] theorem State.setRefused_busAttached : (s.setRefused v).busAttached = s.busAttached := rfl
@[simp] theorem State.setRefused_mem : (s.setRefused v).mem = s.mem := rfl

end

/-! ### `setBusAttached` -/

section

variable (v : Bool)

@[simp] theorem State.setBusAttached_a : (s.setBusAttached v).a = s.a := rfl
@[simp] theorem State.setBusAttached_x : (s.setBusAttached v).x = s.x := rfl
@[simp] theorem State.setBusAttached_y : (s.setBusAttached v).y = s.y := rfl
@[simp] theorem State.setBusAttached_sp : (s.setBusAttached v).sp = s.sp := rfl
@[simp] theorem State.setBusAttached_pc : (s.setBusAttached v).pc = s.pc := rfl
@[simp] theorem State.setBusAttached_p : (s.setBusAttached v).p = s.p := rfl
@[simp] theorem State.setBusAttached_opcode : (s.setBusAttached v).opcode = s.opcode := rfl
@[simp] theorem State.setBusAttached_fetched : (s.setBusAttached v).fetched = s.fetched := rfl
@[simp] theorem State.setBusAttached_addrAbs : (s.setBusAttached v).addrAbs = s.addrAbs := rfl
@[simp] theorem State.setBusAttached_addrRel : (s.setBusAttached v).addrRel = s.addrRel := rfl
@[simp] theorem State.setBusAttached_crossed : (s.setBusAttached v).crossed = s.crossed := rfl
@[simp] theorem State.setBusAttached_remaining : (s.setBusAttached v).remaining = s.remaining := rfl
@[simp] theorem State.setBusAttached_totalCycles : (s.setBusAttached v).totalCycles = s.totalCycles := rfl
@[simp] theorem State.setBusAttached_refused : (s.setBusAttached v).refused = s.refused := rfl
@[simp] theorem State.setBusAttached_busAttached : (s.setBusAttached v).busAttached = v := rfl
@[simp] theorem State.setBusAttached_mem : (s.setBusAttached v).mem = s.mem := rfl

end

/-! ### `setMem` -/

section

variable (v : Memory)

@[simp] theorem State.setMem_a : (s.setMem v).a = s.a := rfl
@[simp] theorem State.setMem_x : (s.setMem v).x = s.x := rfl
@[simp] theorem State.setMem_y : (s.setMem v).y = s.y := rfl
@[simp] theorem State.setMem_sp : (s.setMem v).sp = s.sp := rfl
@[simp] theorem State.setMem_pc : (s.setMem v).pc = s.pc := rfl
@[simp] theorem State.setMem_p : (s.setMem v).p = s.p := rfl
@[simp] theorem State.setMem_opcode : (s.setMem v).opcode = s.opcode := rfl
@[simp] theorem State.setMem_fetched : (s.setMem v).fetched = s.fetched := rfl
@[simp] theorem State.setMem_addrAbs : (s.setMem v).addrAbs = s.addrAbs := rfl
@[simp] theorem State.setMem_addrRel : (s.setMem v).addrRel = s.addrRel := rfl
@[simp] theorem State.setMem_crossed : (s.setMem v).crossed = s.crossed := rfl
@[simp] theorem State.setMem_remaining : (s.setMem v).remaining = s.remaining := rfl
@[simp] theorem State.setMem_totalCycles : (s.setMem v).totalCycles = s.totalCycles := rfl
@[simp] theorem State.setMem_refused : (s.setMem v).refused = s.refused := rfl
@[simp] theorem State.setMem_busAttached : (s.setMem v).busAttached = s.busAttached := rfl
@[simp] theorem State.setMem_mem : (s.setMem v).mem = v := rfl

end

/-! ### `setFlag` -/

section

variable (f : Flag) (v : Bool)

@[simp] theorem State.setFlag_a : (s.setFlag f v).a = s.a := rfl
@[simp] theorem State.setFlag_x : (s.setFlag f v).x = s.x := rfl
@[simp] theorem State.setFlag_y : (s.setFlag f v).y = s.y := rfl
@[simp] theorem State.setFlag_sp : (s.setFlag f v).sp = s.sp := rfl
@[simp] theorem State.setFlag_pc : (s.setFlag f v).pc = s.pc := rfl
@[simp] theorem State.setFlag_p : (s.setFlag f v).p = Machine.setFlag f v s.p := rfl
@[simp] theorem State.setFlag_opcode : (s.setFlag f v).opcode = s.opcode := rfl
@[simp] theorem State.setFlag_fetched : (s.setFlag f v).fetched = s.fetched := rfl
@[simp] theorem State.setFlag_addrAbs : (s.setFlag f v).addrAbs = s.addrAbs := rfl
@[simp] theorem State.setFlag_addrRel : (s.setFlag f v).addrRel = s.addrRel := rfl
@[simp] theorem State.setFlag_crossed : (s.setFlag f v).crossed = s.crossed := rfl
@[simp] theorem State.setFlag_remaining : (s.setFlag f v).remaining = s.remaining := rfl
@[simp] theorem State.setFlag_totalCycles : (s.setFlag f v).totalCycles = s.totalCycles := rfl
@[simp] theorem State.setFlag_refused : (s.setFlag f v).refused = s.refused := rfl
@[simp] theorem State.setFlag_busAttached : (s.setFlag f v).busAttached = s.busAttached := rfl
@[simp] theorem State.setFlag_mem : (s.setFlag f v).mem = s.mem := rfl

end

/-! ### `setZN` -/

section

variable (v : Byte)

@[simp] theorem State.setZN_a : (s.setZN v).a = s.a := rfl
@[simp] theorem State.setZN_x : (s.setZN v).x = s.x := rfl
@[simp] theorem State.setZN_y : (s.setZN v).y = s.y := rfl
@[simp] theorem State.setZN_sp : (s.setZN v).sp = s.sp := rfl
@[simp] theorem State.setZN_pc : (s.setZN v).pc = s.pc := rfl
@[simp] theorem State.setZN_p : (s.setZN v).p = Machine.setZN v s.p := rfl
@[simp] theorem State.setZN_opcode : (s.setZN v).opcode = s.opcode := rfl
@[simp] theorem State.setZN_fetched : (s.setZN v).fetched = s.fetched := rfl
@[simp] theorem State.setZN_addrAbs : (s.setZN v).addrAbs = s.addrAbs := rfl
@[simp] theorem State.setZN_addrRel : (s.setZN v).addrRel = s.addrRel := rfl
@[simp] theorem State.setZN_crossed : (s.setZN v).crossed = s.crossed := rfl
@[simp] theorem State.setZN_remaining : (s.setZN v).remaining = s.remaining := rfl
@[simp] theorem State.setZN_totalCycles : (s.setZN v).totalCycles = s.totalCycles := rfl
@[simp] theorem State.setZN_refused : (s.setZN v).refused = s.refused := rfl
@[simp] theorem State.setZN_busAttached : (s.setZN v).busAttached = s.busAttached := rfl
@[simp] theorem State.setZN_mem : (s.setZN v).mem = s.mem := rfl

end

end Sys2Proof.Machine
end

