-- ==== Sys2Proof/Laws/Flags.lean ====
section
/-!
SUPPORT. What reading one flag gives after each flag computation (spec/10_state.md R36).
-/

-- One theorem at a time: with many in flight the compile asks for a thread each and may get none.
set_option Elab.async false

namespace Sys2Proof.Machine

/-- `set_flag` writes its bit and leaves the other seven (R36). -/
@[simp] theorem getFlag_setFlag (f g : Flag) (v : Bool) (p : Byte) :
    getFlag f (setFlag g v p) = if f = g then v else getFlag f p := by
  cases f <;> cases g <;> cases v <;> simp [getFlag, setFlag, Flag.mask, Flag.bit]

/-- `SetZN` (R10). -/
@[simp] theorem getFlag_setZN (f : Flag) (v p : Byte) :
    getFlag f (setZN v p) = if f = .n then v.msb else if f = .z then v == 0x00#8 else getFlag f p := by
  simp [setZN]

/-- A status byte is its eight flags (R26, R27). -/
theorem eq_of_getFlag {p q : Byte} (h : ∀ f, getFlag f p = getFlag f q) : p = q := by
  apply BitVec.eq_of_getLsbD_eq
  intro k hk
  have := h .c; have := h .z; have := h .i; have := h .d
  have := h .b; have := h .u; have := h .v; have := h .n
  simp only [getFlag, Flag.bit] at *
  interval_cases k <;> assumption

/-- The copy PHP and BRK push (R191, R221). -/
@[simp] theorem getFlag_softwarePushedP (f : Flag) (p : Byte) :
    getFlag f (softwarePushedP p) = if f = .b ∨ f = .u then true else getFlag f p := by
  cases f <;> simp [getFlag, softwarePushedP, Flag.bit]

/-- The copy IRQ and NMI push (R233). -/
@[simp] theorem getFlag_hardwarePushedP (f : Flag) (p : Byte) :
    getFlag f (hardwarePushedP p) =
      if f = .b then false else if f = .u then true else getFlag f p := by
  cases f <;> simp [getFlag, hardwarePushedP, Flag.bit]

/-- What PLP and RTI make of a pulled byte (R193, R203). -/
@[simp] theorem getFlag_pulledP (f : Flag) (v : Byte) :
    getFlag f (pulledP v) = if f = .b then false else if f = .u then true else getFlag f v := by
  cases f <;> simp [getFlag, pulledP, Flag.bit]

@[simp] theorem State.flag_setFlag (s : State) (f g : Flag) (v : Bool) :
    (s.setFlag g v).flag f = if f = g then v else s.flag f := by simp [State.flag]

@[simp] theorem State.flag_setZN (s : State) (f : Flag) (v : Byte) :
    (s.setZN v).flag f = if f = .n then v.msb else if f = .z then v == 0x00#8 else s.flag f := by
  simp [State.flag]

end Sys2Proof.Machine
end

