-- ==== Sys2Proof/Laws/Memory.lean ====
section
/-!
SUPPORT. The laws of the flat bus (spec/20_memory.md R70): a read after a write, and that a write
keeps the canonical form.
-/

-- One theorem at a time: with many in flight the compile asks for a thread each and may get none.
set_option Elab.async false

namespace Sys2Proof.Machine

theorem Memory.wf_nil : Memory.wf [] := by decide

theorem Memory.wf_cons {k : Nat} {v : Byte} {m : Memory} :
    Memory.wf ((k, v) :: m) ↔
      (∀ c ∈ m, k < c.1) ∧ k < 65536 ∧ v ≠ Config.unlistedByte ∧ Memory.wf m := by
  simp only [Memory.wf, List.map_cons, List.pairwise_cons, List.mem_map, List.mem_cons]
  constructor
  · rintro ⟨⟨h1, h2⟩, h3⟩
    exact ⟨fun c hc => h1 _ ⟨c, hc, rfl⟩, (h3 _ (.inl rfl)).1, (h3 _ (.inl rfl)).2, h2,
      fun c hc => h3 c (.inr hc)⟩
  · rintro ⟨h1, h2, h3, h4, h5⟩
    refine ⟨⟨?_, h4⟩, ?_⟩
    · rintro _ ⟨c, hc, rfl⟩
      exact h1 c hc
    · rintro c (rfl | hc)
      · exact ⟨h2, h3⟩
      · exact h5 c hc

/-- An address below every listed one is unlisted. -/
theorem Memory.read_of_lt {m : Memory} {a : Word} (h : ∀ c ∈ m, a.toNat < c.1) :
    m.read a = Config.unlistedByte := by
  induction m with
  | nil => rfl
  | cons c m ih =>
    have hc := h c (by simp)
    rw [Memory.read, if_neg (by omega)]
    exact ih fun d hd => h d (by simp [hd])

/-- A write leaves every other address as it was. -/
theorem Memory.read_write_other (m : Memory) {a b : Word} (v : Byte) (h : b ≠ a) :
    (m.write a v).read b = m.read b := by
  have hn : a.toNat ≠ b.toNat := fun e => h (BitVec.eq_of_toNat_eq e.symm)
  induction m with
  | nil =>
    simp only [Memory.write]
    split <;> simp [Memory.read, hn]
  | cons c m ih =>
    obtain ⟨k, w⟩ := c
    simp only [Memory.write]
    split
    · split <;> simp [Memory.read, hn]
    · split
      · next hk => split <;> simp [Memory.read, ← hk, hn]
      · simp only [Memory.read, ih]

/-- A read after a write to the same address gives the byte written. -/
theorem Memory.read_write_same {m : Memory} (hm : m.wf) (a : Word) (v : Byte) :
    (m.write a v).read a = v := by
  induction m with
  | nil =>
    simp only [Memory.write]
    split
    · next h => simp [Memory.read, h]
    · simp [Memory.read]
  | cons c m ih =>
    obtain ⟨k, w⟩ := c
    rw [Memory.wf_cons] at hm
    obtain ⟨hlt, -, -, hwf⟩ := hm
    simp only [Memory.write]
    split
    · next hk =>
      split
      · next hv =>
        rw [hv]
        refine Memory.read_of_lt fun c hc => ?_
        rcases List.mem_cons.1 hc with rfl | hc
        · exact hk
        · exact Nat.lt_trans hk (hlt c hc)
      · simp [Memory.read]
    · split
      · next hk =>
        split
        · next hv =>
          rw [hv]
          exact Memory.read_of_lt fun c hc => hk ▸ hlt c hc
        · simp [Memory.read]
      · next hk =>
        rw [Memory.read, if_neg (fun e => hk e.symm)]
        exact ih hwf

/-- A read after a write, at any address. -/
theorem Memory.read_write {m : Memory} (hm : m.wf) (a b : Word) (v : Byte) :
    (m.write a v).read b = if b = a then v else m.read b := by
  split
  · next h => rw [h, Memory.read_write_same hm]
  · next h => exact Memory.read_write_other m v h

/-- Every entry after a write is an old one or the one written. -/
theorem Memory.mem_write {m : Memory} {a : Word} {v : Byte} {c : Host.Cell} (h : c ∈ m.write a v) :
    c ∈ m ∨ c = (a.toNat, v) := by
  induction m with
  | nil =>
    simp only [Memory.write] at h
    split at h <;> simp_all
  | cons d m ih =>
    obtain ⟨k, w⟩ := d
    simp only [Memory.write] at h
    split at h
    · split at h
      · exact .inl h
      · exact (List.mem_cons.1 h).symm
    · split at h
      · split at h
        · exact .inl (List.mem_cons_of_mem _ h)
        · exact (List.mem_cons.1 h).symm.imp_left (List.mem_cons_of_mem _)
      · rcases List.mem_cons.1 h with rfl | h
        · exact .inl (by simp)
        · exact (ih h).imp_left (List.mem_cons_of_mem _)

/-- The canonical form is kept by a write: the one memory operation that changes memory. -/
theorem Memory.wf_write {m : Memory} (hm : m.wf) (a : Word) (v : Byte) : (m.write a v).wf := by
  induction m with
  | nil =>
    simp only [Memory.write]
    split
    · exact Memory.wf_nil
    · next h => exact Memory.wf_cons.2 ⟨by simp, a.isLt, h, Memory.wf_nil⟩
  | cons c m ih =>
    obtain ⟨k, w⟩ := c
    obtain ⟨hlt, hk, hw, hwf⟩ := Memory.wf_cons.1 hm
    simp only [Memory.write]
    split
    · next h =>
      split
      · exact hm
      · next hv =>
        refine Memory.wf_cons.2 ⟨fun c hc => ?_, a.isLt, hv, hm⟩
        rcases List.mem_cons.1 hc with rfl | hc
        · exact h
        · exact Nat.lt_trans h (hlt c hc)
    · next h1 =>
      split
      · next h2 =>
        split
        · exact hwf
        · next hv => exact Memory.wf_cons.2 ⟨h2 ▸ hlt, a.isLt, hv, hwf⟩
      · next h2 =>
        refine Memory.wf_cons.2 ⟨fun c hc => ?_, hk, hw, ih hwf⟩
        rcases Memory.mem_write hc with hc | rfl
        · exact hlt c hc
        · simp only
          omega

/-- The address of a pointer's second byte, inside the pointer's page (R105). -/
theorem nextInPage_eq (w : Word) :
    nextInPage w = BitVec.ofNat 16 (w.toNat / 256 * 256 + (w.toNat + 1) % 256) := by
  apply BitVec.eq_of_toNat_eq
  have := w.isLt
  simp [nextInPage]
  omega

/-- A pointer read as arithmetic (R105 to R107). -/
theorem Memory.readPointer_toNat (m : Memory) (w : Word) :
    (m.readPointer w).toNat = (m.read w).toNat +
      256 * (m.read (BitVec.ofNat 16 (w.toNat / 256 * 256 + (w.toNat + 1) % 256))).toNat := by
  rw [Memory.readPointer, wordOf_toNat, nextInPage_eq]
  omega

end Sys2Proof.Machine
end

