-- ==== Sys2Proof/Laws/Operands.lean ====
section
/-!
SUPPORT. What the resolver and the operand primitives can do (spec/30_encoding.md R95, R109, R110).
-/

-- One theorem at a time: with many in flight the compile asks for a thread each and may get none.
set_option Elab.async false

namespace Sys2Proof.Machine

variable (o : Operand) (s : State)

/-! ## The resolver, field by field: it writes `addr_abs`, `addr_rel`, `crossed` and PC only (R95) -/

@[simp] theorem resolve_a : (resolve o s).a = s.a := rfl
@[simp] theorem resolve_x : (resolve o s).x = s.x := rfl
@[simp] theorem resolve_y : (resolve o s).y = s.y := rfl
@[simp] theorem resolve_sp : (resolve o s).sp = s.sp := rfl
@[simp] theorem resolve_pc : (resolve o s).pc = s.pc + BitVec.ofNat 16 o.mode.width := rfl
@[simp] theorem resolve_p : (resolve o s).p = s.p := rfl
@[simp] theorem resolve_opcode : (resolve o s).opcode = s.opcode := rfl
@[simp] theorem resolve_fetched : (resolve o s).fetched = s.fetched := rfl
@[simp] theorem resolve_addrAbs : (resolve o s).addrAbs = effAddr o s := rfl
@[simp] theorem resolve_addrRel : (resolve o s).addrRel = relOffset o s := rfl
@[simp] theorem resolve_crossed : (resolve o s).crossed = pageCrossed o s := rfl
@[simp] theorem resolve_remaining : (resolve o s).remaining = s.remaining := rfl
@[simp] theorem resolve_totalCycles : (resolve o s).totalCycles = s.totalCycles := rfl
@[simp] theorem resolve_refused : (resolve o s).refused = s.refused := rfl
@[simp] theorem resolve_busAttached : (resolve o s).busAttached = s.busAttached := rfl
@[simp] theorem resolve_mem : (resolve o s).mem = s.mem := rfl

/-- `Operand()` after the resolver is the operand seen from before it (R109). -/
@[simp] theorem operandByte_resolve : operandByte o (resolve o s) = operandValue o s := by
  cases o <;> rfl

/-! ## `fetched` is all that `Operand()` writes (R109) -/

@[simp] theorem noteFetched_a : (noteFetched o s).a = s.a := by cases o <;> rfl
@[simp] theorem noteFetched_x : (noteFetched o s).x = s.x := by cases o <;> rfl
@[simp] theorem noteFetched_y : (noteFetched o s).y = s.y := by cases o <;> rfl
@[simp] theorem noteFetched_sp : (noteFetched o s).sp = s.sp := by cases o <;> rfl
@[simp] theorem noteFetched_pc : (noteFetched o s).pc = s.pc := by cases o <;> rfl
@[simp] theorem noteFetched_p : (noteFetched o s).p = s.p := by cases o <;> rfl
@[simp] theorem noteFetched_opcode : (noteFetched o s).opcode = s.opcode := by cases o <;> rfl
@[simp] theorem noteFetched_addrAbs : (noteFetched o s).addrAbs = s.addrAbs := by cases o <;> rfl
@[simp] theorem noteFetched_addrRel : (noteFetched o s).addrRel = s.addrRel := by cases o <;> rfl
@[simp] theorem noteFetched_crossed : (noteFetched o s).crossed = s.crossed := by cases o <;> rfl
@[simp] theorem noteFetched_remaining : (noteFetched o s).remaining = s.remaining := by
  cases o <;> rfl
@[simp] theorem noteFetched_totalCycles : (noteFetched o s).totalCycles = s.totalCycles := by
  cases o <;> rfl
@[simp] theorem noteFetched_refused : (noteFetched o s).refused = s.refused := by cases o <;> rfl
@[simp] theorem noteFetched_busAttached : (noteFetched o s).busAttached = s.busAttached := by
  cases o <;> rfl
@[simp] theorem noteFetched_mem : (noteFetched o s).mem = s.mem := by cases o <;> rfl
@[simp] theorem flag_noteFetched (f : Flag) : (noteFetched o s).flag f = s.flag f := by
  cases o <;> rfl

/-! ## Write back: to A in Accumulator mode, else to the byte at EA (R110) -/

variable (v : Byte)

@[simp] theorem writeBack_a :
    (writeBack o v s).a = if o = .acc then v else s.a := by cases o <;> rfl
@[simp] theorem writeBack_mem :
    (writeBack o v s).mem = if o = .acc then s.mem else s.mem.write s.addrAbs v := by
  cases o <;> rfl
@[simp] theorem writeBack_x : (writeBack o v s).x = s.x := by cases o <;> rfl
@[simp] theorem writeBack_y : (writeBack o v s).y = s.y := by cases o <;> rfl
@[simp] theorem writeBack_sp : (writeBack o v s).sp = s.sp := by cases o <;> rfl
@[simp] theorem writeBack_pc : (writeBack o v s).pc = s.pc := by cases o <;> rfl
@[simp] theorem writeBack_p : (writeBack o v s).p = s.p := by cases o <;> rfl
@[simp] theorem writeBack_opcode : (writeBack o v s).opcode = s.opcode := by cases o <;> rfl
@[simp] theorem writeBack_fetched : (writeBack o v s).fetched = s.fetched := by cases o <;> rfl
@[simp] theorem writeBack_addrAbs : (writeBack o v s).addrAbs = s.addrAbs := by cases o <;> rfl
@[simp] theorem writeBack_addrRel : (writeBack o v s).addrRel = s.addrRel := by cases o <;> rfl
@[simp] theorem writeBack_crossed : (writeBack o v s).crossed = s.crossed := by cases o <;> rfl
@[simp] theorem writeBack_remaining : (writeBack o v s).remaining = s.remaining := by
  cases o <;> rfl
@[simp] theorem writeBack_totalCycles : (writeBack o v s).totalCycles = s.totalCycles := by
  cases o <;> rfl
@[simp] theorem writeBack_refused : (writeBack o v s).refused = s.refused := by cases o <;> rfl
@[simp] theorem writeBack_busAttached : (writeBack o v s).busAttached = s.busAttached := by
  cases o <;> rfl

end Sys2Proof.Machine
end

