-- ==== Sys2Proof/Laws/Ops.lean ====
section
/-!
SUPPORT. What the named operations can do: the stack protocol, interrupt entry and return, `Execute`.
-/

-- One theorem at a time: with many in flight the compile asks for a thread each and may get none.
set_option Elab.async false

namespace Sys2Proof.Machine

/-! ## The stack protocol (R60, R61) -/

variable (v : Byte) (w : Word) (s : State)

@[simp] theorem push_a : (push v s).a = s.a := rfl
@[simp] theorem push_x : (push v s).x = s.x := rfl
@[simp] theorem push_y : (push v s).y = s.y := rfl
@[simp] theorem push_sp : (push v s).sp = s.sp - 1 := rfl
@[simp] theorem push_pc : (push v s).pc = s.pc := rfl
@[simp] theorem push_p : (push v s).p = s.p := rfl
@[simp] theorem push_opcode : (push v s).opcode = s.opcode := rfl
@[simp] theorem push_fetched : (push v s).fetched = s.fetched := rfl
@[simp] theorem push_addrAbs : (push v s).addrAbs = s.addrAbs := rfl
@[simp] theorem push_addrRel : (push v s).addrRel = s.addrRel := rfl
@[simp] theorem push_crossed : (push v s).crossed = s.crossed := rfl
@[simp] theorem push_remaining : (push v s).remaining = s.remaining := rfl
@[simp] theorem push_totalCycles : (push v s).totalCycles = s.totalCycles := rfl
@[simp] theorem push_refused : (push v s).refused = s.refused := rfl
@[simp] theorem push_busAttached : (push v s).busAttached = s.busAttached := rfl
@[simp] theorem push_mem : (push v s).mem = s.mem.write (stackAddr s.sp) v := rfl

/-- The stack page (R59). -/
theorem stackAddr_toNat (b : Byte) : (stackAddr b).toNat = 256 + b.toNat := by
  revert b
  decide

/-- Two stack pointers address one byte only if they are equal (R62). -/
theorem stackAddr_inj {b c : Byte} (h : stackAddr b = stackAddr c) : b = c := by
  have := congrArg BitVec.toNat h
  rw [stackAddr_toNat, stackAddr_toNat] at this
  apply BitVec.eq_of_toNat_eq
  omega

/-- `Pull()` changes SP only (R61). -/
theorem pullSp_eq : pullSp s = s.setSp (s.sp + 1) := rfl

/-- Two pushes: the high byte at SP, the low byte below it (R54, R60). -/
theorem pushWord_eq : pushWord w s =
    (s.setMem ((s.mem.write (stackAddr s.sp) (hiByte w)).write (stackAddr (s.sp - 1))
      (loByte w))).setSp (s.sp - 1 - 1) := rfl

/-! ## Interrupt entry (R233) -/

/-- Everything interrupt entry does: three pushes, I set, PC from the vector. -/
theorem interruptEntry_eq (vector : Word) (pushedP : Byte) :
    interruptEntry vector pushedP s =
      (((push pushedP (pushWord s.pc s)).setFlag .i true)).setPc
        ((push pushedP (pushWord s.pc s)).mem.readWord vector) := rfl

/-! ## Execute (R90) -/

/-- The one answer of `Execute`: a next state. -/
theorem executeWith_next (op : Byte) (o : Operand) (h : State → State × Nat) :
    executeWith op o h s = .next ((h (resolved op o s)).1.setRemaining
      ((descriptor op).baseCycles + pageCycles op (resolved op o s) + (h (resolved op o s)).2)) := rfl

/-- `Execute` of a handler with c2 = 0. -/
theorem execute_next (op : Byte) (o : Operand) (h : State → State) :
    execute op o h s = .next ((h (resolved op o s)).setRemaining
      ((descriptor op).baseCycles + pageCycles op (resolved op o s))) := rfl

/-- The opcode fetch writes the scratch `opcode` and PC only (R90). -/
theorem fetchOpcode_eq (op : Byte) : fetchOpcode op s = (s.setOpcode op).setPc (s.pc + 1) := rfl

section

variable (op : Byte) (o : Operand)

@[simp] theorem fetchOpcode_a : (fetchOpcode op s).a = s.a := by simp [fetchOpcode]
@[simp] theorem fetchOpcode_x : (fetchOpcode op s).x = s.x := by simp [fetchOpcode]
@[simp] theorem fetchOpcode_y : (fetchOpcode op s).y = s.y := by simp [fetchOpcode]
@[simp] theorem fetchOpcode_sp : (fetchOpcode op s).sp = s.sp := by simp [fetchOpcode]
@[simp] theorem fetchOpcode_p : (fetchOpcode op s).p = s.p := by simp [fetchOpcode]
@[simp] theorem fetchOpcode_fetched : (fetchOpcode op s).fetched = s.fetched := by
  simp [fetchOpcode]
@[simp] theorem fetchOpcode_addrAbs : (fetchOpcode op s).addrAbs = s.addrAbs := by
  simp [fetchOpcode]
@[simp] theorem fetchOpcode_addrRel : (fetchOpcode op s).addrRel = s.addrRel := by
  simp [fetchOpcode]
@[simp] theorem fetchOpcode_crossed : (fetchOpcode op s).crossed = s.crossed := by
  simp [fetchOpcode]
@[simp] theorem fetchOpcode_remaining : (fetchOpcode op s).remaining = s.remaining := by
  simp [fetchOpcode]
@[simp] theorem fetchOpcode_totalCycles : (fetchOpcode op s).totalCycles = s.totalCycles := by
  simp [fetchOpcode]
@[simp] theorem fetchOpcode_refused : (fetchOpcode op s).refused = s.refused := by
  simp [fetchOpcode]
@[simp] theorem fetchOpcode_busAttached : (fetchOpcode op s).busAttached = s.busAttached := by
  simp [fetchOpcode]
@[simp] theorem fetchOpcode_mem : (fetchOpcode op s).mem = s.mem := by simp [fetchOpcode]
@[simp] theorem fetchOpcode_pc : (fetchOpcode op s).pc = s.pc + 1 := by simp [fetchOpcode]
@[simp] theorem fetchOpcode_opcode : (fetchOpcode op s).opcode = op := by simp [fetchOpcode]

@[simp] theorem resolved_a : (resolved op o s).a = s.a := by simp [resolved]
@[simp] theorem resolved_x : (resolved op o s).x = s.x := by simp [resolved]
@[simp] theorem resolved_y : (resolved op o s).y = s.y := by simp [resolved]
@[simp] theorem resolved_sp : (resolved op o s).sp = s.sp := by simp [resolved]
@[simp] theorem resolved_pc :
    (resolved op o s).pc = s.pc + 1 + BitVec.ofNat 16 o.mode.width := by simp [resolved]
@[simp] theorem resolved_p : (resolved op o s).p = s.p := by simp [resolved]
@[simp] theorem resolved_opcode : (resolved op o s).opcode = op := by simp [resolved]
@[simp] theorem resolved_fetched : (resolved op o s).fetched = s.fetched := by simp [resolved]
@[simp] theorem resolved_remaining : (resolved op o s).remaining = s.remaining := by simp [resolved]
@[simp] theorem resolved_totalCycles : (resolved op o s).totalCycles = s.totalCycles := by simp [resolved]
@[simp] theorem resolved_refused : (resolved op o s).refused = s.refused := by simp [resolved]
@[simp] theorem resolved_busAttached : (resolved op o s).busAttached = s.busAttached := by simp [resolved]
@[simp] theorem resolved_mem : (resolved op o s).mem = s.mem := by simp [resolved]
@[simp] theorem flag_resolved (f : Flag) : (resolved op o s).flag f = s.flag f := by
  simp [State.flag]

/-- The effective address from the boundary state; Immediate mode's is the operand byte's own. -/
theorem resolved_addrAbs : (resolved op o s).addrAbs = effAddr o (fetchOpcode op s) := rfl

/-- The relative offset in `addr_rel` (R108). -/
theorem resolved_addrRel : (resolved op o s).addrRel = relOffset o (fetchOpcode op s) := rfl

/-- The page-cross signal does not depend on the opcode fetch (R95). -/
@[simp] theorem resolved_crossed : (resolved op o s).crossed = pageCrossed o s := by
  rw [resolved, resolve_crossed]
  cases o <;> simp [pageCrossed, indexBase, effAddr]

/-- But for Immediate mode the effective address does not depend on the opcode fetch. -/
theorem effAddr_fetchOpcode (h : o.mode ≠ .imm) : effAddr o (fetchOpcode op s) = effAddr o s := by
  cases o <;> first | exact absurd rfl h | simp [effAddr]

/-- The operand byte is the one seen from the boundary state (R109). -/
@[simp] theorem operandByte_resolved : operandByte o (resolved op o s) = operandValue o s := by
  rw [resolved, operandByte_resolve]
  cases o <;> simp [operandValue, effAddr]

/-- c1 from the boundary state (R282). -/
theorem pageCycles_resolved : pageCycles op (resolved op o s) =
    if pageCrossed o s && (descriptor op).pagePenalty then 1 else 0 := by
  simp only [pageCycles, resolved_crossed]

end

/-- With the decided `DECIMAL_MODE` the guard of ADC and SBC is transparent (R141). -/
theorem decimalMode_false : Config.decimalMode = false := rfl

end Sys2Proof.Machine
end

