-- ==== Sys2Proof/Laws/Exec.lean ====
section
/-!
SUPPORT. What `exec` does with every instruction of one mnemonic: the shared `Execute` (R90) with the
mnemonic's handler. One lemma per mnemonic, so that a proof about a mnemonic splits over its rows
once, here.
-/

-- One theorem at a time: with many in flight the compile asks for a thread each and may get none.
set_option Elab.async false

namespace Sys2Proof.Machine

variable {i : Instr} (s : State)

/-- What `exec` does, by mnemonic: the shared `Execute` with the mnemonic's handler (R84, R90). -/
def execBy (m : Mnemonic) (op : Byte) (o : Operand) (s : State) : Host.Outcome State Fault Refusal :=
  match m with
  | .lda => execute op o (handleLda o) s
  | .ldx => execute op o (handleLdx o) s
  | .ldy => execute op o (handleLdy o) s
  | .sta => execute op o handleSta s
  | .stx => execute op o handleStx s
  | .sty => execute op o handleSty s
  | .tax => execute op o handleTax s
  | .tay => execute op o handleTay s
  | .txa => execute op o handleTxa s
  | .tya => execute op o handleTya s
  | .adc => decimalGuard op s (execute op o (handleAdc o) s)
  | .sbc => decimalGuard op s (execute op o (handleSbc o) s)
  | .and => execute op o (handleAnd o) s
  | .ora => execute op o (handleOra o) s
  | .eor => execute op o (handleEor o) s
  | .bit => execute op o (handleBit o) s
  | .inc => execute op o (handleInc o) s
  | .dec => execute op o (handleDec o) s
  | .inx => execute op o handleInx s
  | .iny => execute op o handleIny s
  | .dex => execute op o handleDex s
  | .dey => execute op o handleDey s
  | .asl => execute op o (handleAsl o) s
  | .lsr => execute op o (handleLsr o) s
  | .rol => execute op o (handleRol o) s
  | .ror => execute op o (handleRor o) s
  | .cmp => execute op o (handleCmp o) s
  | .cpx => execute op o (handleCpx o) s
  | .cpy => execute op o (handleCpy o) s
  | .bcc => executeWith op o handleBcc s
  | .bcs => executeWith op o handleBcs s
  | .beq => executeWith op o handleBeq s
  | .bne => executeWith op o handleBne s
  | .bmi => executeWith op o handleBmi s
  | .bpl => executeWith op o handleBpl s
  | .bvc => executeWith op o handleBvc s
  | .bvs => executeWith op o handleBvs s
  | .pha => execute op o handlePha s
  | .php => execute op o handlePhp s
  | .pla => execute op o handlePla s
  | .plp => execute op o handlePlp s
  | .tsx => execute op o handleTsx s
  | .txs => execute op o handleTxs s
  | .jmp => execute op o handleJmp s
  | .jsr => execute op o handleJsr s
  | .rts => execute op o handleRts s
  | .rti => execute op o handleRti s
  | .clc => execute op o handleClc s
  | .cld => execute op o handleCld s
  | .cli => execute op o handleCli s
  | .clv => execute op o handleClv s
  | .sec => execute op o handleSec s
  | .sed => execute op o handleSed s
  | .sei => execute op o handleSei s
  | .nop => execute op o handleNop s
  | .brk => execute op o handleBrk s
  | .undocumented => .refused (.illegalOpcode op s.pc)

/-- Every row's meaning is its mnemonic's handler under `Execute`, with the row's opcode and operand. -/
theorem exec_eq_execBy (i : Instr) (s : State) :
    exec i s = execBy i.mnemonic i.opcode i.operand s := by
  cases i <;> rfl

theorem exec_lda (h : i.mnemonic = .lda) :
    exec i s = execute i.opcode i.operand (handleLda i.operand) s := by
  rw [exec_eq_execBy, h, execBy]

theorem exec_ldx (h : i.mnemonic = .ldx) :
    exec i s = execute i.opcode i.operand (handleLdx i.operand) s := by
  rw [exec_eq_execBy, h, execBy]

theorem exec_ldy (h : i.mnemonic = .ldy) :
    exec i s = execute i.opcode i.operand (handleLdy i.operand) s := by
  rw [exec_eq_execBy, h, execBy]

theorem exec_sta (h : i.mnemonic = .sta) :
    exec i s = execute i.opcode i.operand handleSta s := by
  rw [exec_eq_execBy, h, execBy]

theorem exec_stx (h : i.mnemonic = .stx) :
    exec i s = execute i.opcode i.operand handleStx s := by
  rw [exec_eq_execBy, h, execBy]

theorem exec_sty (h : i.mnemonic = .sty) :
    exec i s = execute i.opcode i.operand handleSty s := by
  rw [exec_eq_execBy, h, execBy]

theorem exec_tax (h : i.mnemonic = .tax) :
    exec i s = execute i.opcode i.operand handleTax s := by
  rw [exec_eq_execBy, h, execBy]

theorem exec_tay (h : i.mnemonic = .tay) :
    exec i s = execute i.opcode i.operand handleTay s := by
  rw [exec_eq_execBy, h, execBy]

theorem exec_txa (h : i.mnemonic = .txa) :
    exec i s = execute i.opcode i.operand handleTxa s := by
  rw [exec_eq_execBy, h, execBy]

theorem exec_tya (h : i.mnemonic = .tya) :
    exec i s = execute i.opcode i.operand handleTya s := by
  rw [exec_eq_execBy, h, execBy]

theorem exec_adc (h : i.mnemonic = .adc) :
    exec i s = decimalGuard i.opcode s (execute i.opcode i.operand (handleAdc i.operand) s) := by
  rw [exec_eq_execBy, h, execBy]

theorem exec_sbc (h : i.mnemonic = .sbc) :
    exec i s = decimalGuard i.opcode s (execute i.opcode i.operand (handleSbc i.operand) s) := by
  rw [exec_eq_execBy, h, execBy]

theorem exec_and (h : i.mnemonic = .and) :
    exec i s = execute i.opcode i.operand (handleAnd i.operand) s := by
  rw [exec_eq_execBy, h, execBy]

theorem exec_ora (h : i.mnemonic = .ora) :
    exec i s = execute i.opcode i.operand (handleOra i.operand) s := by
  rw [exec_eq_execBy, h, execBy]

theorem exec_eor (h : i.mnemonic = .eor) :
    exec i s = execute i.opcode i.operand (handleEor i.operand) s := by
  rw [exec_eq_execBy, h, execBy]

theorem exec_bit (h : i.mnemonic = .bit) :
    exec i s = execute i.opcode i.operand (handleBit i.operand) s := by
  rw [exec_eq_execBy, h, execBy]

theorem exec_inc (h : i.mnemonic = .inc) :
    exec i s = execute i.opcode i.operand (handleInc i.operand) s := by
  rw [exec_eq_execBy, h, execBy]

theorem exec_dec (h : i.mnemonic = .dec) :
    exec i s = execute i.opcode i.operand (handleDec i.operand) s := by
  rw [exec_eq_execBy, h, execBy]

theorem exec_inx (h : i.mnemonic = .inx) :
    exec i s = execute i.opcode i.operand handleInx s := by
  rw [exec_eq_execBy, h, execBy]

theorem exec_iny (h : i.mnemonic = .iny) :
    exec i s = execute i.opcode i.operand handleIny s := by
  rw [exec_eq_execBy, h, execBy]

theorem exec_dex (h : i.mnemonic = .dex) :
    exec i s = execute i.opcode i.operand handleDex s := by
  rw [exec_eq_execBy, h, execBy]

theorem exec_dey (h : i.mnemonic = .dey) :
    exec i s = execute i.opcode i.operand handleDey s := by
  rw [exec_eq_execBy, h, execBy]

theorem exec_asl (h : i.mnemonic = .asl) :
    exec i s = execute i.opcode i.operand (handleAsl i.operand) s := by
  rw [exec_eq_execBy, h, execBy]

theorem exec_lsr (h : i.mnemonic = .lsr) :
    exec i s = execute i.opcode i.operand (handleLsr i.operand) s := by
  rw [exec_eq_execBy, h, execBy]

theorem exec_rol (h : i.mnemonic = .rol) :
    exec i s = execute i.opcode i.operand (handleRol i.operand) s := by
  rw [exec_eq_execBy, h, execBy]

theorem exec_ror (h : i.mnemonic = .ror) :
    exec i s = execute i.opcode i.operand (handleRor i.operand) s := by
  rw [exec_eq_execBy, h, execBy]

theorem exec_cmp (h : i.mnemonic = .cmp) :
    exec i s = execute i.opcode i.operand (handleCmp i.operand) s := by
  rw [exec_eq_execBy, h, execBy]

theorem exec_cpx (h : i.mnemonic = .cpx) :
    exec i s = execute i.opcode i.operand (handleCpx i.operand) s := by
  rw [exec_eq_execBy, h, execBy]

theorem exec_cpy (h : i.mnemonic = .cpy) :
    exec i s = execute i.opcode i.operand (handleCpy i.operand) s := by
  rw [exec_eq_execBy, h, execBy]

theorem exec_bcc (h : i.mnemonic = .bcc) :
    exec i s = executeWith i.opcode i.operand handleBcc s := by
  rw [exec_eq_execBy, h, execBy]

theorem exec_bcs (h : i.mnemonic = .bcs) :
    exec i s = executeWith i.opcode i.operand handleBcs s := by
  rw [exec_eq_execBy, h, execBy]

theorem exec_beq (h : i.mnemonic = .beq) :
    exec i s = executeWith i.opcode i.operand handleBeq s := by
  rw [exec_eq_execBy, h, execBy]

theorem exec_bne (h : i.mnemonic = .bne) :
    exec i s = executeWith i.opcode i.operand handleBne s := by
  rw [exec_eq_execBy, h, execBy]

theorem exec_bmi (h : i.mnemonic = .bmi) :
    exec i s = executeWith i.opcode i.operand handleBmi s := by
  rw [exec_eq_execBy, h, execBy]

theorem exec_bpl (h : i.mnemonic = .bpl) :
    exec i s = executeWith i.opcode i.operand handleBpl s := by
  rw [exec_eq_execBy, h, execBy]

theorem exec_bvc (h : i.mnemonic = .bvc) :
    exec i s = executeWith i.opcode i.operand handleBvc s := by
  rw [exec_eq_execBy, h, execBy]

theorem exec_bvs (h : i.mnemonic = .bvs) :
    exec i s = executeWith i.opcode i.operand handleBvs s := by
  rw [exec_eq_execBy, h, execBy]

theorem exec_pha (h : i.mnemonic = .pha) :
    exec i s = execute i.opcode i.operand handlePha s := by
  rw [exec_eq_execBy, h, execBy]

theorem exec_php (h : i.mnemonic = .php) :
    exec i s = execute i.opcode i.operand handlePhp s := by
  rw [exec_eq_execBy, h, execBy]

theorem exec_pla (h : i.mnemonic = .pla) :
    exec i s = execute i.opcode i.operand handlePla s := by
  rw [exec_eq_execBy, h, execBy]

theorem exec_plp (h : i.mnemonic = .plp) :
    exec i s = execute i.opcode i.operand handlePlp s := by
  rw [exec_eq_execBy, h, execBy]

theorem exec_tsx (h : i.mnemonic = .tsx) :
    exec i s = execute i.opcode i.operand handleTsx s := by
  rw [exec_eq_execBy, h, execBy]

theorem exec_txs (h : i.mnemonic = .txs) :
    exec i s = execute i.opcode i.operand handleTxs s := by
  rw [exec_eq_execBy, h, execBy]

theorem exec_jmp (h : i.mnemonic = .jmp) :
    exec i s = execute i.opcode i.operand handleJmp s := by
  rw [exec_eq_execBy, h, execBy]

theorem exec_jsr (h : i.mnemonic = .jsr) :
    exec i s = execute i.opcode i.operand handleJsr s := by
  rw [exec_eq_execBy, h, execBy]

theorem exec_rts (h : i.mnemonic = .rts) :
    exec i s = execute i.opcode i.operand handleRts s := by
  rw [exec_eq_execBy, h, execBy]

theorem exec_rti (h : i.mnemonic = .rti) :
    exec i s = execute i.opcode i.operand handleRti s := by
  rw [exec_eq_execBy, h, execBy]

theorem exec_clc (h : i.mnemonic = .clc) :
    exec i s = execute i.opcode i.operand handleClc s := by
  rw [exec_eq_execBy, h, execBy]

theorem exec_cld (h : i.mnemonic = .cld) :
    exec i s = execute i.opcode i.operand handleCld s := by
  rw [exec_eq_execBy, h, execBy]

theorem exec_cli (h : i.mnemonic = .cli) :
    exec i s = execute i.opcode i.operand handleCli s := by
  rw [exec_eq_execBy, h, execBy]

theorem exec_clv (h : i.mnemonic = .clv) :
    exec i s = execute i.opcode i.operand handleClv s := by
  rw [exec_eq_execBy, h, execBy]

theorem exec_sec (h : i.mnemonic = .sec) :
    exec i s = execute i.opcode i.operand handleSec s := by
  rw [exec_eq_execBy, h, execBy]

theorem exec_sed (h : i.mnemonic = .sed) :
    exec i s = execute i.opcode i.operand handleSed s := by
  rw [exec_eq_execBy, h, execBy]

theorem exec_sei (h : i.mnemonic = .sei) :
    exec i s = execute i.opcode i.operand handleSei s := by
  rw [exec_eq_execBy, h, execBy]

theorem exec_nop (h : i.mnemonic = .nop) :
    exec i s = execute i.opcode i.operand handleNop s := by
  rw [exec_eq_execBy, h, execBy]

theorem exec_brk (h : i.mnemonic = .brk) :
    exec i s = execute i.opcode i.operand handleBrk s := by
  rw [exec_eq_execBy, h, execBy]

theorem exec_undocumented (h : i.mnemonic = .undocumented) :
    exec i s = .refused (.illegalOpcode i.opcode s.pc) := by
  rw [exec_eq_execBy, h, execBy]

/-- The handler of each mnemonic with its extra cycles c2 (R90): 0 but for a taken branch. -/
def handlerOf (m : Mnemonic) (o : Operand) (r : State) : State × Nat :=
  match m with
  | .lda => (handleLda o r, 0)
  | .ldx => (handleLdx o r, 0)
  | .ldy => (handleLdy o r, 0)
  | .sta => (handleSta r, 0)
  | .stx => (handleStx r, 0)
  | .sty => (handleSty r, 0)
  | .tax => (handleTax r, 0)
  | .tay => (handleTay r, 0)
  | .txa => (handleTxa r, 0)
  | .tya => (handleTya r, 0)
  | .adc => (handleAdc o r, 0)
  | .sbc => (handleSbc o r, 0)
  | .and => (handleAnd o r, 0)
  | .ora => (handleOra o r, 0)
  | .eor => (handleEor o r, 0)
  | .bit => (handleBit o r, 0)
  | .inc => (handleInc o r, 0)
  | .dec => (handleDec o r, 0)
  | .inx => (handleInx r, 0)
  | .iny => (handleIny r, 0)
  | .dex => (handleDex r, 0)
  | .dey => (handleDey r, 0)
  | .asl => (handleAsl o r, 0)
  | .lsr => (handleLsr o r, 0)
  | .rol => (handleRol o r, 0)
  | .ror => (handleRor o r, 0)
  | .cmp => (handleCmp o r, 0)
  | .cpx => (handleCpx o r, 0)
  | .cpy => (handleCpy o r, 0)
  | .bcc => handleBcc r
  | .bcs => handleBcs r
  | .beq => handleBeq r
  | .bne => handleBne r
  | .bmi => handleBmi r
  | .bpl => handleBpl r
  | .bvc => handleBvc r
  | .bvs => handleBvs r
  | .pha => (handlePha r, 0)
  | .php => (handlePhp r, 0)
  | .pla => (handlePla r, 0)
  | .plp => (handlePlp r, 0)
  | .tsx => (handleTsx r, 0)
  | .txs => (handleTxs r, 0)
  | .jmp => (handleJmp r, 0)
  | .jsr => (handleJsr r, 0)
  | .rts => (handleRts r, 0)
  | .rti => (handleRti r, 0)
  | .clc => (handleClc r, 0)
  | .cld => (handleCld r, 0)
  | .cli => (handleCli r, 0)
  | .clv => (handleClv r, 0)
  | .sec => (handleSec r, 0)
  | .sed => (handleSed r, 0)
  | .sei => (handleSei r, 0)
  | .nop => (handleNop r, 0)
  | .brk => (handleBrk r, 0)
  | .undocumented => (r, 0)

/-- Every documented row executes its mnemonic's handler (R90, R141 with the decided parameter). -/
theorem exec_eq_handler (h : i.mnemonic ≠ .undocumented) :
    exec i s = executeWith i.opcode i.operand (handlerOf i.mnemonic i.operand) s := by
  rw [exec_eq_execBy]
  cases e : i.mnemonic <;> first | exact absurd e h | rfl

/-- Everything `exec` can do when it answers a next state: the instruction is documented, and the state
is its handler's, with the cost in `remaining`. -/
theorem exec_next {s t : State} (h : exec i s = .next t) :
    i.mnemonic ≠ .undocumented ∧
      t = (handlerOf i.mnemonic i.operand (resolved i.opcode i.operand s)).1.setRemaining
        ((descriptor i.opcode).baseCycles + pageCycles i.opcode (resolved i.opcode i.operand s) +
          (handlerOf i.mnemonic i.operand (resolved i.opcode i.operand s)).2) := by
  have hm : i.mnemonic ≠ .undocumented := fun e => by
    rw [exec_undocumented s e] at h
    cases h
  rw [exec_eq_handler s hm, executeWith_next] at h
  cases h
  exact ⟨hm, rfl⟩

end Sys2Proof.Machine
end

