-- ==== Sys2Proof/Laws/HostOps.lean ====
section
/-!
SUPPORT. What a pulse and a host call can do.
-/

-- One theorem at a time: with many in flight the compile asks for a thread each and may get none.
set_option Elab.async false

namespace Sys2Proof.Machine

/-- State.reset is construct, then a bus that lists nothing, then reset (R44, R272, R270). -/
theorem reset_eq_protocol :
    perform .reset (perform (.attachBus []) State.construct) = State.reset := by decide

/-- A pulse with an instruction to execute (R280). -/
theorem step_idle {s : State} (hr : s.refused = none) (hb : s.busAttached = true)
    (hi : s.remaining = 0) : step s = tickOutcome (exec (fetchInstr s) s) := by
  simp [step, hostCall, hr, callUnrefused, whenAttached, hb, pulse, hi]

/-- A waiting pulse (R280, R283). -/
theorem step_busy {s : State} (hr : s.refused = none) (hb : s.busAttached = true)
    (hi : s.remaining ≠ 0) : step s = .next (tick s) := by
  simp [step, hostCall, hr, callUnrefused, whenAttached, hb, pulse, hi]

/-- Everything a pulse can do when it answers a next state: it executed at Idle, or it waited. -/
theorem step_next {s t : State} (h : step s = .next t) :
    s.refused = none ∧ s.busAttached = true ∧
      ((s.remaining = 0 ∧ ∃ u, exec (fetchInstr s) s = .next u ∧ t = tick u) ∨
        (s.remaining ≠ 0 ∧ t = tick s)) := by
  cases hr : s.refused with
  | some r => simp [step, hostCall, hr] at h
  | none =>
    cases hb : s.busAttached with
    | false => simp [step, hostCall, hr, callUnrefused, whenAttached, hb] at h
    | true =>
      by_cases hi : s.remaining = 0
      · rw [step_idle hr hb hi] at h
        cases he : exec (fetchInstr s) s with
        | next u =>
          rw [he] at h
          exact ⟨rfl, rfl, .inl ⟨hi, u, rfl, by cases h; rfl⟩⟩
        | fault f => cases f
        | refused r => rw [he] at h; cases h
      · rw [step_busy hr hb hi] at h
        exact ⟨rfl, rfl, .inr ⟨hi, by cases h; rfl⟩⟩

/-- A refused call sets the mark and changes nothing else (R40). -/
theorem perform_of_refused {c : HostCall} {s : State} {r : Refusal}
    (h : hostCall c s = .refused r) : perform c s = s.setRefused (some r) := by
  rw [perform, h]; rfl

/-- An accepted call's state (R13). -/
theorem perform_of_next {c : HostCall} {s t : State} (h : hostCall c s = .next t) :
    perform c s = t := by rw [perform, h]; rfl

/-- The first of several pulses. -/
theorem run_succ (M : Host.Core) (k : Nat) {s t : M.State} (h : M.step s = .next t) :
    M.run (k + 1) s = M.run k t := by
  rw [Host.Core.run, h]

end Sys2Proof.Machine
end

