-- ==== Sys2Proof/Laws/PerInstr.lean ====
section
/-!
SUPPORT. The family TableRow: what the opcode table and the encoder say of an instruction as syntax,
one lemma per constructor.
-/

-- One theorem at a time: with many in flight the compile asks for a thread each and may get none.
set_option Elab.async false

namespace Sys2Proof.Laws.TableRow

/-- A well-formed instruction's opcode has the descriptor of its own mnemonic and mode (R84, R85,
R86), its base cost is at least 2 and at most 7 (R88), and its encoding has the length of its mode
(R81). -/
def Statement (i : Instr) : Prop :=
  i.WellFormed →
    (descriptor i.opcode).mnemonic = i.mnemonic ∧ (descriptor i.opcode).mode = i.operand.mode ∧
      2 ≤ (descriptor i.opcode).baseCycles ∧ (descriptor i.opcode).baseCycles ≤ 7 ∧
        (encode i).length = i.length

/-- The statement from the descriptor written out. -/
theorem of_descriptor {i : Instr} {d : Descriptor} (hd : descriptor i.opcode = d)
    (hm : d.mnemonic = i.mnemonic) (ho : d.mode = i.operand.mode)
    (hc : 2 ≤ d.baseCycles ∧ d.baseCycles ≤ 7) (hl : (encode i).length = i.length) :
    Statement i := fun _ => hd ▸ ⟨hm, ho, hc.1, hc.2, hl⟩

theorem ldaIzx (b : Byte) : Statement (.ldaIzx b) :=
  of_descriptor (d := ⟨.lda, .izx, 6, false⟩) rfl rfl rfl (by decide) rfl
theorem ldaZp0 (b : Byte) : Statement (.ldaZp0 b) :=
  of_descriptor (d := ⟨.lda, .zp0, 3, false⟩) rfl rfl rfl (by decide) rfl
theorem ldaImm (b : Byte) : Statement (.ldaImm b) :=
  of_descriptor (d := ⟨.lda, .imm, 2, false⟩) rfl rfl rfl (by decide) rfl
theorem ldaAbs (w : Word) : Statement (.ldaAbs w) :=
  of_descriptor (d := ⟨.lda, .abs, 4, false⟩) rfl rfl rfl (by decide) rfl
theorem ldaIzy (b : Byte) : Statement (.ldaIzy b) :=
  of_descriptor (d := ⟨.lda, .izy, 5, true⟩) rfl rfl rfl (by decide) rfl
theorem ldaZpx (b : Byte) : Statement (.ldaZpx b) :=
  of_descriptor (d := ⟨.lda, .zpx, 4, false⟩) rfl rfl rfl (by decide) rfl
theorem ldaAby (w : Word) : Statement (.ldaAby w) :=
  of_descriptor (d := ⟨.lda, .aby, 4, true⟩) rfl rfl rfl (by decide) rfl
theorem ldaAbx (w : Word) : Statement (.ldaAbx w) :=
  of_descriptor (d := ⟨.lda, .abx, 4, true⟩) rfl rfl rfl (by decide) rfl
theorem ldxImm (b : Byte) : Statement (.ldxImm b) :=
  of_descriptor (d := ⟨.ldx, .imm, 2, false⟩) rfl rfl rfl (by decide) rfl
theorem ldxZp0 (b : Byte) : Statement (.ldxZp0 b) :=
  of_descriptor (d := ⟨.ldx, .zp0, 3, false⟩) rfl rfl rfl (by decide) rfl
theorem ldxAbs (w : Word) : Statement (.ldxAbs w) :=
  of_descriptor (d := ⟨.ldx, .abs, 4, false⟩) rfl rfl rfl (by decide) rfl
theorem ldxZpy (b : Byte) : Statement (.ldxZpy b) :=
  of_descriptor (d := ⟨.ldx, .zpy, 4, false⟩) rfl rfl rfl (by decide) rfl
theorem ldxAby (w : Word) : Statement (.ldxAby w) :=
  of_descriptor (d := ⟨.ldx, .aby, 4, true⟩) rfl rfl rfl (by decide) rfl
theorem ldyImm (b : Byte) : Statement (.ldyImm b) :=
  of_descriptor (d := ⟨.ldy, .imm, 2, false⟩) rfl rfl rfl (by decide) rfl
theorem ldyZp0 (b : Byte) : Statement (.ldyZp0 b) :=
  of_descriptor (d := ⟨.ldy, .zp0, 3, false⟩) rfl rfl rfl (by decide) rfl
theorem ldyAbs (w : Word) : Statement (.ldyAbs w) :=
  of_descriptor (d := ⟨.ldy, .abs, 4, false⟩) rfl rfl rfl (by decide) rfl
theorem ldyZpx (b : Byte) : Statement (.ldyZpx b) :=
  of_descriptor (d := ⟨.ldy, .zpx, 4, false⟩) rfl rfl rfl (by decide) rfl
theorem ldyAbx (w : Word) : Statement (.ldyAbx w) :=
  of_descriptor (d := ⟨.ldy, .abx, 4, true⟩) rfl rfl rfl (by decide) rfl
theorem staIzx (b : Byte) : Statement (.staIzx b) :=
  of_descriptor (d := ⟨.sta, .izx, 6, false⟩) rfl rfl rfl (by decide) rfl
theorem staZp0 (b : Byte) : Statement (.staZp0 b) :=
  of_descriptor (d := ⟨.sta, .zp0, 3, false⟩) rfl rfl rfl (by decide) rfl
theorem staAbs (w : Word) : Statement (.staAbs w) :=
  of_descriptor (d := ⟨.sta, .abs, 4, false⟩) rfl rfl rfl (by decide) rfl
theorem staIzy (b : Byte) : Statement (.staIzy b) :=
  of_descriptor (d := ⟨.sta, .izy, 6, false⟩) rfl rfl rfl (by decide) rfl
theorem staZpx (b : Byte) : Statement (.staZpx b) :=
  of_descriptor (d := ⟨.sta, .zpx, 4, false⟩) rfl rfl rfl (by decide) rfl
theorem staAby (w : Word) : Statement (.staAby w) :=
  of_descriptor (d := ⟨.sta, .aby, 5, false⟩) rfl rfl rfl (by decide) rfl
theorem staAbx (w : Word) : Statement (.staAbx w) :=
  of_descriptor (d := ⟨.sta, .abx, 5, false⟩) rfl rfl rfl (by decide) rfl
theorem stxZp0 (b : Byte) : Statement (.stxZp0 b) :=
  of_descriptor (d := ⟨.stx, .zp0, 3, false⟩) rfl rfl rfl (by decide) rfl
theorem stxAbs (w : Word) : Statement (.stxAbs w) :=
  of_descriptor (d := ⟨.stx, .abs, 4, false⟩) rfl rfl rfl (by decide) rfl
theorem stxZpy (b : Byte) : Statement (.stxZpy b) :=
  of_descriptor (d := ⟨.stx, .zpy, 4, false⟩) rfl rfl rfl (by decide) rfl
theorem styZp0 (b : Byte) : Statement (.styZp0 b) :=
  of_descriptor (d := ⟨.sty, .zp0, 3, false⟩) rfl rfl rfl (by decide) rfl
theorem styAbs (w : Word) : Statement (.styAbs w) :=
  of_descriptor (d := ⟨.sty, .abs, 4, false⟩) rfl rfl rfl (by decide) rfl
theorem styZpx (b : Byte) : Statement (.styZpx b) :=
  of_descriptor (d := ⟨.sty, .zpx, 4, false⟩) rfl rfl rfl (by decide) rfl
theorem tax : Statement .tax :=
  of_descriptor (d := ⟨.tax, .imp, 2, false⟩) rfl rfl rfl (by decide) rfl
theorem tay : Statement .tay :=
  of_descriptor (d := ⟨.tay, .imp, 2, false⟩) rfl rfl rfl (by decide) rfl
theorem txa : Statement .txa :=
  of_descriptor (d := ⟨.txa, .imp, 2, false⟩) rfl rfl rfl (by decide) rfl
theorem tya : Statement .tya :=
  of_descriptor (d := ⟨.tya, .imp, 2, false⟩) rfl rfl rfl (by decide) rfl
theorem adcIzx (b : Byte) : Statement (.adcIzx b) :=
  of_descriptor (d := ⟨.adc, .izx, 6, false⟩) rfl rfl rfl (by decide) rfl
theorem adcZp0 (b : Byte) : Statement (.adcZp0 b) :=
  of_descriptor (d := ⟨.adc, .zp0, 3, false⟩) rfl rfl rfl (by decide) rfl
theorem adcImm (b : Byte) : Statement (.adcImm b) :=
  of_descriptor (d := ⟨.adc, .imm, 2, false⟩) rfl rfl rfl (by decide) rfl
theorem adcAbs (w : Word) : Statement (.adcAbs w) :=
  of_descriptor (d := ⟨.adc, .abs, 4, false⟩) rfl rfl rfl (by decide) rfl
theorem adcIzy (b : Byte) : Statement (.adcIzy b) :=
  of_descriptor (d := ⟨.adc, .izy, 5, true⟩) rfl rfl rfl (by decide) rfl
theorem adcZpx (b : Byte) : Statement (.adcZpx b) :=
  of_descriptor (d := ⟨.adc, .zpx, 4, false⟩) rfl rfl rfl (by decide) rfl
theorem adcAby (w : Word) : Statement (.adcAby w) :=
  of_descriptor (d := ⟨.adc, .aby, 4, true⟩) rfl rfl rfl (by decide) rfl
theorem adcAbx (w : Word) : Statement (.adcAbx w) :=
  of_descriptor (d := ⟨.adc, .abx, 4, true⟩) rfl rfl rfl (by decide) rfl
theorem sbcIzx (b : Byte) : Statement (.sbcIzx b) :=
  of_descriptor (d := ⟨.sbc, .izx, 6, false⟩) rfl rfl rfl (by decide) rfl
theorem sbcZp0 (b : Byte) : Statement (.sbcZp0 b) :=
  of_descriptor (d := ⟨.sbc, .zp0, 3, false⟩) rfl rfl rfl (by decide) rfl
theorem sbcImm (b : Byte) : Statement (.sbcImm b) :=
  of_descriptor (d := ⟨.sbc, .imm, 2, false⟩) rfl rfl rfl (by decide) rfl
theorem sbcAbs (w : Word) : Statement (.sbcAbs w) :=
  of_descriptor (d := ⟨.sbc, .abs, 4, false⟩) rfl rfl rfl (by decide) rfl
theorem sbcIzy (b : Byte) : Statement (.sbcIzy b) :=
  of_descriptor (d := ⟨.sbc, .izy, 5, true⟩) rfl rfl rfl (by decide) rfl
theorem sbcZpx (b : Byte) : Statement (.sbcZpx b) :=
  of_descriptor (d := ⟨.sbc, .zpx, 4, false⟩) rfl rfl rfl (by decide) rfl
theorem sbcAby (w : Word) : Statement (.sbcAby w) :=
  of_descriptor (d := ⟨.sbc, .aby, 4, true⟩) rfl rfl rfl (by decide) rfl
theorem sbcAbx (w : Word) : Statement (.sbcAbx w) :=
  of_descriptor (d := ⟨.sbc, .abx, 4, true⟩) rfl rfl rfl (by decide) rfl
theorem andIzx (b : Byte) : Statement (.andIzx b) :=
  of_descriptor (d := ⟨.and, .izx, 6, false⟩) rfl rfl rfl (by decide) rfl
theorem andZp0 (b : Byte) : Statement (.andZp0 b) :=
  of_descriptor (d := ⟨.and, .zp0, 3, false⟩) rfl rfl rfl (by decide) rfl
theorem andImm (b : Byte) : Statement (.andImm b) :=
  of_descriptor (d := ⟨.and, .imm, 2, false⟩) rfl rfl rfl (by decide) rfl
theorem andAbs (w : Word) : Statement (.andAbs w) :=
  of_descriptor (d := ⟨.and, .abs, 4, false⟩) rfl rfl rfl (by decide) rfl
theorem andIzy (b : Byte) : Statement (.andIzy b) :=
  of_descriptor (d := ⟨.and, .izy, 5, true⟩) rfl rfl rfl (by decide) rfl
theorem andZpx (b : Byte) : Statement (.andZpx b) :=
  of_descriptor (d := ⟨.and, .zpx, 4, false⟩) rfl rfl rfl (by decide) rfl
theorem andAby (w : Word) : Statement (.andAby w) :=
  of_descriptor (d := ⟨.and, .aby, 4, true⟩) rfl rfl rfl (by decide) rfl
theorem andAbx (w : Word) : Statement (.andAbx w) :=
  of_descriptor (d := ⟨.and, .abx, 4, true⟩) rfl rfl rfl (by decide) rfl
theorem oraIzx (b : Byte) : Statement (.oraIzx b) :=
  of_descriptor (d := ⟨.ora, .izx, 6, false⟩) rfl rfl rfl (by decide) rfl
theorem oraZp0 (b : Byte) : Statement (.oraZp0 b) :=
  of_descriptor (d := ⟨.ora, .zp0, 3, false⟩) rfl rfl rfl (by decide) rfl
theorem oraImm (b : Byte) : Statement (.oraImm b) :=
  of_descriptor (d := ⟨.ora, .imm, 2, false⟩) rfl rfl rfl (by decide) rfl
theorem oraAbs (w : Word) : Statement (.oraAbs w) :=
  of_descriptor (d := ⟨.ora, .abs, 4, false⟩) rfl rfl rfl (by decide) rfl
theorem oraIzy (b : Byte) : Statement (.oraIzy b) :=
  of_descriptor (d := ⟨.ora, .izy, 5, true⟩) rfl rfl rfl (by decide) rfl
theorem oraZpx (b : Byte) : Statement (.oraZpx b) :=
  of_descriptor (d := ⟨.ora, .zpx, 4, false⟩) rfl rfl rfl (by decide) rfl
theorem oraAby (w : Word) : Statement (.oraAby w) :=
  of_descriptor (d := ⟨.ora, .aby, 4, true⟩) rfl rfl rfl (by decide) rfl
theorem oraAbx (w : Word) : Statement (.oraAbx w) :=
  of_descriptor (d := ⟨.ora, .abx, 4, true⟩) rfl rfl rfl (by decide) rfl
theorem eorIzx (b : Byte) : Statement (.eorIzx b) :=
  of_descriptor (d := ⟨.eor, .izx, 6, false⟩) rfl rfl rfl (by decide) rfl
theorem eorZp0 (b : Byte) : Statement (.eorZp0 b) :=
  of_descriptor (d := ⟨.eor, .zp0, 3, false⟩) rfl rfl rfl (by decide) rfl
theorem eorImm (b : Byte) : Statement (.eorImm b) :=
  of_descriptor (d := ⟨.eor, .imm, 2, false⟩) rfl rfl rfl (by decide) rfl
theorem eorAbs (w : Word) : Statement (.eorAbs w) :=
  of_descriptor (d := ⟨.eor, .abs, 4, false⟩) rfl rfl rfl (by decide) rfl
theorem eorIzy (b : Byte) : Statement (.eorIzy b) :=
  of_descriptor (d := ⟨.eor, .izy, 5, true⟩) rfl rfl rfl (by decide) rfl
theorem eorZpx (b : Byte) : Statement (.eorZpx b) :=
  of_descriptor (d := ⟨.eor, .zpx, 4, false⟩) rfl rfl rfl (by decide) rfl
theorem eorAby (w : Word) : Statement (.eorAby w) :=
  of_descriptor (d := ⟨.eor, .aby, 4, true⟩) rfl rfl rfl (by decide) rfl
theorem eorAbx (w : Word) : Statement (.eorAbx w) :=
  of_descriptor (d := ⟨.eor, .abx, 4, true⟩) rfl rfl rfl (by decide) rfl
theorem bitZp0 (b : Byte) : Statement (.bitZp0 b) :=
  of_descriptor (d := ⟨.bit, .zp0, 3, false⟩) rfl rfl rfl (by decide) rfl
theorem bitAbs (w : Word) : Statement (.bitAbs w) :=
  of_descriptor (d := ⟨.bit, .abs, 4, false⟩) rfl rfl rfl (by decide) rfl
theorem incZp0 (b : Byte) : Statement (.incZp0 b) :=
  of_descriptor (d := ⟨.inc, .zp0, 5, false⟩) rfl rfl rfl (by decide) rfl
theorem incAbs (w : Word) : Statement (.incAbs w) :=
  of_descriptor (d := ⟨.inc, .abs, 6, false⟩) rfl rfl rfl (by decide) rfl
theorem incZpx (b : Byte) : Statement (.incZpx b) :=
  of_descriptor (d := ⟨.inc, .zpx, 6, false⟩) rfl rfl rfl (by decide) rfl
theorem incAbx (w : Word) : Statement (.incAbx w) :=
  of_descriptor (d := ⟨.inc, .abx, 7, false⟩) rfl rfl rfl (by decide) rfl
theorem decZp0 (b : Byte) : Statement (.decZp0 b) :=
  of_descriptor (d := ⟨.dec, .zp0, 5, false⟩) rfl rfl rfl (by decide) rfl
theorem decAbs (w : Word) : Statement (.decAbs w) :=
  of_descriptor (d := ⟨.dec, .abs, 6, false⟩) rfl rfl rfl (by decide) rfl
theorem decZpx (b : Byte) : Statement (.decZpx b) :=
  of_descriptor (d := ⟨.dec, .zpx, 6, false⟩) rfl rfl rfl (by decide) rfl
theorem decAbx (w : Word) : Statement (.decAbx w) :=
  of_descriptor (d := ⟨.dec, .abx, 7, false⟩) rfl rfl rfl (by decide) rfl
theorem inx : Statement .inx :=
  of_descriptor (d := ⟨.inx, .imp, 2, false⟩) rfl rfl rfl (by decide) rfl
theorem iny : Statement .iny :=
  of_descriptor (d := ⟨.iny, .imp, 2, false⟩) rfl rfl rfl (by decide) rfl
theorem dex : Statement .dex :=
  of_descriptor (d := ⟨.dex, .imp, 2, false⟩) rfl rfl rfl (by decide) rfl
theorem dey : Statement .dey :=
  of_descriptor (d := ⟨.dey, .imp, 2, false⟩) rfl rfl rfl (by decide) rfl
theorem aslZp0 (b : Byte) : Statement (.aslZp0 b) :=
  of_descriptor (d := ⟨.asl, .zp0, 5, false⟩) rfl rfl rfl (by decide) rfl
theorem aslAcc : Statement .aslAcc :=
  of_descriptor (d := ⟨.asl, .acc, 2, false⟩) rfl rfl rfl (by decide) rfl
theorem aslAbs (w : Word) : Statement (.aslAbs w) :=
  of_descriptor (d := ⟨.asl, .abs, 6, false⟩) rfl rfl rfl (by decide) rfl
theorem aslZpx (b : Byte) : Statement (.aslZpx b) :=
  of_descriptor (d := ⟨.asl, .zpx, 6, false⟩) rfl rfl rfl (by decide) rfl
theorem aslAbx (w : Word) : Statement (.aslAbx w) :=
  of_descriptor (d := ⟨.asl, .abx, 7, false⟩) rfl rfl rfl (by decide) rfl
theorem lsrZp0 (b : Byte) : Statement (.lsrZp0 b) :=
  of_descriptor (d := ⟨.lsr, .zp0, 5, false⟩) rfl rfl rfl (by decide) rfl
theorem lsrAcc : Statement .lsrAcc :=
  of_descriptor (d := ⟨.lsr, .acc, 2, false⟩) rfl rfl rfl (by decide) rfl
theorem lsrAbs (w : Word) : Statement (.lsrAbs w) :=
  of_descriptor (d := ⟨.lsr, .abs, 6, false⟩) rfl rfl rfl (by decide) rfl
theorem lsrZpx (b : Byte) : Statement (.lsrZpx b) :=
  of_descriptor (d := ⟨.lsr, .zpx, 6, false⟩) rfl rfl rfl (by decide) rfl
theorem lsrAbx (w : Word) : Statement (.lsrAbx w) :=
  of_descriptor (d := ⟨.lsr, .abx, 7, false⟩) rfl rfl rfl (by decide) rfl
theorem rolZp0 (b : Byte) : Statement (.rolZp0 b) :=
  of_descriptor (d := ⟨.rol, .zp0, 5, false⟩) rfl rfl rfl (by decide) rfl
theorem rolAcc : Statement .rolAcc :=
  of_descriptor (d := ⟨.rol, .acc, 2, false⟩) rfl rfl rfl (by decide) rfl
theorem rolAbs (w : Word) : Statement (.rolAbs w) :=
  of_descriptor (d := ⟨.rol, .abs, 6, false⟩) rfl rfl rfl (by decide) rfl
theorem rolZpx (b : Byte) : Statement (.rolZpx b) :=
  of_descriptor (d := ⟨.rol, .zpx, 6, false⟩) rfl rfl rfl (by decide) rfl
theorem rolAbx (w : Word) : Statement (.rolAbx w) :=
  of_descriptor (d := ⟨.rol, .abx, 7, false⟩) rfl rfl rfl (by decide) rfl
theorem rorZp0 (b : Byte) : Statement (.rorZp0 b) :=
  of_descriptor (d := ⟨.ror, .zp0, 5, false⟩) rfl rfl rfl (by decide) rfl
theorem rorAcc : Statement .rorAcc :=
  of_descriptor (d := ⟨.ror, .acc, 2, false⟩) rfl rfl rfl (by decide) rfl
theorem rorAbs (w : Word) : Statement (.rorAbs w) :=
  of_descriptor (d := ⟨.ror, .abs, 6, false⟩) rfl rfl rfl (by decide) rfl
theorem rorZpx (b : Byte) : Statement (.rorZpx b) :=
  of_descriptor (d := ⟨.ror, .zpx, 6, false⟩) rfl rfl rfl (by decide) rfl
theorem rorAbx (w : Word) : Statement (.rorAbx w) :=
  of_descriptor (d := ⟨.ror, .abx, 7, false⟩) rfl rfl rfl (by decide) rfl
theorem cmpIzx (b : Byte) : Statement (.cmpIzx b) :=
  of_descriptor (d := ⟨.cmp, .izx, 6, false⟩) rfl rfl rfl (by decide) rfl
theorem cmpZp0 (b : Byte) : Statement (.cmpZp0 b) :=
  of_descriptor (d := ⟨.cmp, .zp0, 3, false⟩) rfl rfl rfl (by decide) rfl
theorem cmpImm (b : Byte) : Statement (.cmpImm b) :=
  of_descriptor (d := ⟨.cmp, .imm, 2, false⟩) rfl rfl rfl (by decide) rfl
theorem cmpAbs (w : Word) : Statement (.cmpAbs w) :=
  of_descriptor (d := ⟨.cmp, .abs, 4, false⟩) rfl rfl rfl (by decide) rfl
theorem cmpIzy (b : Byte) : Statement (.cmpIzy b) :=
  of_descriptor (d := ⟨.cmp, .izy, 5, true⟩) rfl rfl rfl (by decide) rfl
theorem cmpZpx (b : Byte) : Statement (.cmpZpx b) :=
  of_descriptor (d := ⟨.cmp, .zpx, 4, false⟩) rfl rfl rfl (by decide) rfl
theorem cmpAby (w : Word) : Statement (.cmpAby w) :=
  of_descriptor (d := ⟨.cmp, .aby, 4, true⟩) rfl rfl rfl (by decide) rfl
theorem cmpAbx (w : Word) : Statement (.cmpAbx w) :=
  of_descriptor (d := ⟨.cmp, .abx, 4, true⟩) rfl rfl rfl (by decide) rfl
theorem cpxImm (b : Byte) : Statement (.cpxImm b) :=
  of_descriptor (d := ⟨.cpx, .imm, 2, false⟩) rfl rfl rfl (by decide) rfl
theorem cpxZp0 (b : Byte) : Statement (.cpxZp0 b) :=
  of_descriptor (d := ⟨.cpx, .zp0, 3, false⟩) rfl rfl rfl (by decide) rfl
theorem cpxAbs (w : Word) : Statement (.cpxAbs w) :=
  of_descriptor (d := ⟨.cpx, .abs, 4, false⟩) rfl rfl rfl (by decide) rfl
theorem cpyImm (b : Byte) : Statement (.cpyImm b) :=
  of_descriptor (d := ⟨.cpy, .imm, 2, false⟩) rfl rfl rfl (by decide) rfl
theorem cpyZp0 (b : Byte) : Statement (.cpyZp0 b) :=
  of_descriptor (d := ⟨.cpy, .zp0, 3, false⟩) rfl rfl rfl (by decide) rfl
theorem cpyAbs (w : Word) : Statement (.cpyAbs w) :=
  of_descriptor (d := ⟨.cpy, .abs, 4, false⟩) rfl rfl rfl (by decide) rfl
theorem bcc (b : Byte) : Statement (.bcc b) :=
  of_descriptor (d := ⟨.bcc, .rel, 2, false⟩) rfl rfl rfl (by decide) rfl
theorem bcs (b : Byte) : Statement (.bcs b) :=
  of_descriptor (d := ⟨.bcs, .rel, 2, false⟩) rfl rfl rfl (by decide) rfl
theorem beq (b : Byte) : Statement (.beq b) :=
  of_descriptor (d := ⟨.beq, .rel, 2, false⟩) rfl rfl rfl (by decide) rfl
theorem bne (b : Byte) : Statement (.bne b) :=
  of_descriptor (d := ⟨.bne, .rel, 2, false⟩) rfl rfl rfl (by decide) rfl
theorem bmi (b : Byte) : Statement (.bmi b) :=
  of_descriptor (d := ⟨.bmi, .rel, 2, false⟩) rfl rfl rfl (by decide) rfl
theorem bpl (b : Byte) : Statement (.bpl b) :=
  of_descriptor (d := ⟨.bpl, .rel, 2, false⟩) rfl rfl rfl (by decide) rfl
theorem bvc (b : Byte) : Statement (.bvc b) :=
  of_descriptor (d := ⟨.bvc, .rel, 2, false⟩) rfl rfl rfl (by decide) rfl
theorem bvs (b : Byte) : Statement (.bvs b) :=
  of_descriptor (d := ⟨.bvs, .rel, 2, false⟩) rfl rfl rfl (by decide) rfl
theorem pha : Statement .pha :=
  of_descriptor (d := ⟨.pha, .imp, 3, false⟩) rfl rfl rfl (by decide) rfl
theorem php : Statement .php :=
  of_descriptor (d := ⟨.php, .imp, 3, false⟩) rfl rfl rfl (by decide) rfl
theorem pla : Statement .pla :=
  of_descriptor (d := ⟨.pla, .imp, 4, false⟩) rfl rfl rfl (by decide) rfl
theorem plp : Statement .plp :=
  of_descriptor (d := ⟨.plp, .imp, 4, false⟩) rfl rfl rfl (by decide) rfl
theorem tsx : Statement .tsx :=
  of_descriptor (d := ⟨.tsx, .imp, 2, false⟩) rfl rfl rfl (by decide) rfl
theorem txs : Statement .txs :=
  of_descriptor (d := ⟨.txs, .imp, 2, false⟩) rfl rfl rfl (by decide) rfl
theorem jmpAbs (w : Word) : Statement (.jmpAbs w) :=
  of_descriptor (d := ⟨.jmp, .abs, 3, false⟩) rfl rfl rfl (by decide) rfl
theorem jmpInd (w : Word) : Statement (.jmpInd w) :=
  of_descriptor (d := ⟨.jmp, .ind, 5, false⟩) rfl rfl rfl (by decide) rfl
theorem jsr (w : Word) : Statement (.jsr w) :=
  of_descriptor (d := ⟨.jsr, .abs, 6, false⟩) rfl rfl rfl (by decide) rfl
theorem rts : Statement .rts :=
  of_descriptor (d := ⟨.rts, .imp, 6, false⟩) rfl rfl rfl (by decide) rfl
theorem rti : Statement .rti :=
  of_descriptor (d := ⟨.rti, .imp, 6, false⟩) rfl rfl rfl (by decide) rfl
theorem clc : Statement .clc :=
  of_descriptor (d := ⟨.clc, .imp, 2, false⟩) rfl rfl rfl (by decide) rfl
theorem cld : Statement .cld :=
  of_descriptor (d := ⟨.cld, .imp, 2, false⟩) rfl rfl rfl (by decide) rfl
theorem cli : Statement .cli :=
  of_descriptor (d := ⟨.cli, .imp, 2, false⟩) rfl rfl rfl (by decide) rfl
theorem clv : Statement .clv :=
  of_descriptor (d := ⟨.clv, .imp, 2, false⟩) rfl rfl rfl (by decide) rfl
theorem sec : Statement .sec :=
  of_descriptor (d := ⟨.sec, .imp, 2, false⟩) rfl rfl rfl (by decide) rfl
theorem sed : Statement .sed :=
  of_descriptor (d := ⟨.sed, .imp, 2, false⟩) rfl rfl rfl (by decide) rfl
theorem sei : Statement .sei :=
  of_descriptor (d := ⟨.sei, .imp, 2, false⟩) rfl rfl rfl (by decide) rfl
theorem nop : Statement .nop :=
  of_descriptor (d := ⟨.nop, .imp, 2, false⟩) rfl rfl rfl (by decide) rfl
theorem brk : Statement .brk :=
  of_descriptor (d := ⟨.brk, .imp, 7, false⟩) rfl rfl rfl (by decide) rfl

/-- The undocumented opcodes' descriptors are all the same (R86). -/
theorem undocumented_descriptor {op : Byte} (h : op ∈ undocumentedOpcodes) :
    descriptor op = illegalDescriptor := by
  have all : undocumentedOpcodes.map descriptor = List.replicate 105 illegalDescriptor := by
    decide +kernel
  exact List.eq_of_mem_replicate (all ▸ List.mem_map_of_mem h)

theorem undocumented (opcode : Byte) : Statement (.undocumented opcode) := fun h => by
  have d : descriptor (Instr.opcode (.undocumented opcode)) = illegalDescriptor :=
    undocumented_descriptor h
  rw [d]
  exact ⟨rfl, rfl, by decide, by decide, rfl⟩

end Sys2Proof.Laws.TableRow
end

