-- ==== Sys2Proof/Tests/Slice0.lean ====
section
/-!
SUPPORT. The model's own tests: well-formedness, decoding of every row by words written out from the
matrix of spec/30_encoding.md R85, one-step vectors, host calls and bus traces of
spec/95_test_vectors.md, and a witness for the hypotheses of every obligation that has some.
Every expected result is the spec's.
-/

-- One theorem at a time: with many in flight the compile asks for a thread each and may get none.
set_option Elab.async false

namespace Sys2Proof.Tests

open Sys2Proof.Machine

/-! ## Well-formedness -/

theorem test_wellFormed_refuses_documented_byte : ¬ (Instr.undocumented 0xA9#8).WellFormed := by
  decide

theorem test_wellFormed_accepts_undocumented_byte : (Instr.undocumented 0x89#8).WellFormed := by
  decide

/-! ## Decoding: every row, its word written out from the matrix (R85) with operand byte 0x10 or operand
bytes 0x34 0x12, which R82 reads as 0x1234 -/

/-- What a whole list of bytes decodes to. -/
def decoded (bytes : List Byte) : Option Instr :=
  match decode bytes with
  | .ok (i, []) => some i
  | _ => none

/-- Every listed word decodes to the instruction beside it, with nothing left over. -/
def decodesTo (rows : List (List Byte × Instr)) : Bool := rows.all fun r => decoded r.1 == some r.2

theorem test_decode_loadStore_1 : decodesTo
    [([0xA1#8, 0x10#8], .ldaIzx 0x10#8), ([0xA5#8, 0x10#8], .ldaZp0 0x10#8),
     ([0xA9#8, 0x10#8], .ldaImm 0x10#8), ([0xAD#8, 0x34#8, 0x12#8], .ldaAbs 0x1234#16),
     ([0xB1#8, 0x10#8], .ldaIzy 0x10#8), ([0xB5#8, 0x10#8], .ldaZpx 0x10#8),
     ([0xB9#8, 0x34#8, 0x12#8], .ldaAby 0x1234#16), ([0xBD#8, 0x34#8, 0x12#8], .ldaAbx 0x1234#16),
     ([0xA2#8, 0x10#8], .ldxImm 0x10#8), ([0xA6#8, 0x10#8], .ldxZp0 0x10#8),
     ([0xAE#8, 0x34#8, 0x12#8], .ldxAbs 0x1234#16), ([0xB6#8, 0x10#8], .ldxZpy 0x10#8),
     ([0xBE#8, 0x34#8, 0x12#8], .ldxAby 0x1234#16), ([0xA0#8, 0x10#8], .ldyImm 0x10#8),
     ([0xA4#8, 0x10#8], .ldyZp0 0x10#8), ([0xAC#8, 0x34#8, 0x12#8], .ldyAbs 0x1234#16),
     ([0xB4#8, 0x10#8], .ldyZpx 0x10#8),
     ([0xBC#8, 0x34#8, 0x12#8], .ldyAbx 0x1234#16)] = true := by decide

theorem test_decode_loadStore_2 : decodesTo
    [([0x81#8, 0x10#8], .staIzx 0x10#8), ([0x85#8, 0x10#8], .staZp0 0x10#8),
     ([0x8D#8, 0x34#8, 0x12#8], .staAbs 0x1234#16), ([0x91#8, 0x10#8], .staIzy 0x10#8),
     ([0x95#8, 0x10#8], .staZpx 0x10#8), ([0x99#8, 0x34#8, 0x12#8], .staAby 0x1234#16),
     ([0x9D#8, 0x34#8, 0x12#8], .staAbx 0x1234#16), ([0x86#8, 0x10#8], .stxZp0 0x10#8),
     ([0x8E#8, 0x34#8, 0x12#8], .stxAbs 0x1234#16), ([0x96#8, 0x10#8], .stxZpy 0x10#8),
     ([0x84#8, 0x10#8], .styZp0 0x10#8), ([0x8C#8, 0x34#8, 0x12#8], .styAbs 0x1234#16),
     ([0x94#8, 0x10#8], .styZpx 0x10#8), ([0xAA#8], .tax), ([0xA8#8], .tay), ([0x8A#8], .txa),
     ([0x98#8], .tya)] = true := by decide

theorem test_decode_arithmetic_1 : decodesTo
    [([0x61#8, 0x10#8], .adcIzx 0x10#8), ([0x65#8, 0x10#8], .adcZp0 0x10#8),
     ([0x69#8, 0x10#8], .adcImm 0x10#8), ([0x6D#8, 0x34#8, 0x12#8], .adcAbs 0x1234#16),
     ([0x71#8, 0x10#8], .adcIzy 0x10#8), ([0x75#8, 0x10#8], .adcZpx 0x10#8),
     ([0x79#8, 0x34#8, 0x12#8], .adcAby 0x1234#16), ([0x7D#8, 0x34#8, 0x12#8], .adcAbx 0x1234#16),
     ([0xE1#8, 0x10#8], .sbcIzx 0x10#8), ([0xE5#8, 0x10#8], .sbcZp0 0x10#8),
     ([0xE9#8, 0x10#8], .sbcImm 0x10#8), ([0xED#8, 0x34#8, 0x12#8], .sbcAbs 0x1234#16),
     ([0xF1#8, 0x10#8], .sbcIzy 0x10#8), ([0xF5#8, 0x10#8], .sbcZpx 0x10#8),
     ([0xF9#8, 0x34#8, 0x12#8], .sbcAby 0x1234#16),
     ([0xFD#8, 0x34#8, 0x12#8], .sbcAbx 0x1234#16)] = true := by decide

theorem test_decode_arithmetic_2 : decodesTo
    [([0x21#8, 0x10#8], .andIzx 0x10#8), ([0x25#8, 0x10#8], .andZp0 0x10#8),
     ([0x29#8, 0x10#8], .andImm 0x10#8), ([0x2D#8, 0x34#8, 0x12#8], .andAbs 0x1234#16),
     ([0x31#8, 0x10#8], .andIzy 0x10#8), ([0x35#8, 0x10#8], .andZpx 0x10#8),
     ([0x39#8, 0x34#8, 0x12#8], .andAby 0x1234#16), ([0x3D#8, 0x34#8, 0x12#8], .andAbx 0x1234#16),
     ([0x01#8, 0x10#8], .oraIzx 0x10#8), ([0x05#8, 0x10#8], .oraZp0 0x10#8),
     ([0x09#8, 0x10#8], .oraImm 0x10#8), ([0x0D#8, 0x34#8, 0x12#8], .oraAbs 0x1234#16),
     ([0x11#8, 0x10#8], .oraIzy 0x10#8), ([0x15#8, 0x10#8], .oraZpx 0x10#8),
     ([0x19#8, 0x34#8, 0x12#8], .oraAby 0x1234#16), ([0x1D#8, 0x34#8, 0x12#8], .oraAbx 0x1234#16),
     ([0x41#8, 0x10#8], .eorIzx 0x10#8), ([0x45#8, 0x10#8], .eorZp0 0x10#8),
     ([0x49#8, 0x10#8], .eorImm 0x10#8), ([0x4D#8, 0x34#8, 0x12#8], .eorAbs 0x1234#16),
     ([0x51#8, 0x10#8], .eorIzy 0x10#8), ([0x55#8, 0x10#8], .eorZpx 0x10#8),
     ([0x59#8, 0x34#8, 0x12#8], .eorAby 0x1234#16),
     ([0x5D#8, 0x34#8, 0x12#8], .eorAbx 0x1234#16)] = true := by decide

theorem test_decode_arithmetic_3 : decodesTo
    [([0x24#8, 0x10#8], .bitZp0 0x10#8), ([0x2C#8, 0x34#8, 0x12#8], .bitAbs 0x1234#16),
     ([0xE6#8, 0x10#8], .incZp0 0x10#8), ([0xEE#8, 0x34#8, 0x12#8], .incAbs 0x1234#16),
     ([0xF6#8, 0x10#8], .incZpx 0x10#8), ([0xFE#8, 0x34#8, 0x12#8], .incAbx 0x1234#16),
     ([0xC6#8, 0x10#8], .decZp0 0x10#8), ([0xCE#8, 0x34#8, 0x12#8], .decAbs 0x1234#16),
     ([0xD6#8, 0x10#8], .decZpx 0x10#8), ([0xDE#8, 0x34#8, 0x12#8], .decAbx 0x1234#16),
     ([0xE8#8], .inx), ([0xC8#8], .iny), ([0xCA#8], .dex), ([0x88#8], .dey)] = true := by decide

theorem test_decode_shiftRotate : decodesTo
    [([0x06#8, 0x10#8], .aslZp0 0x10#8), ([0x0A#8], .aslAcc),
     ([0x0E#8, 0x34#8, 0x12#8], .aslAbs 0x1234#16), ([0x16#8, 0x10#8], .aslZpx 0x10#8),
     ([0x1E#8, 0x34#8, 0x12#8], .aslAbx 0x1234#16), ([0x46#8, 0x10#8], .lsrZp0 0x10#8),
     ([0x4A#8], .lsrAcc), ([0x4E#8, 0x34#8, 0x12#8], .lsrAbs 0x1234#16),
     ([0x56#8, 0x10#8], .lsrZpx 0x10#8), ([0x5E#8, 0x34#8, 0x12#8], .lsrAbx 0x1234#16),
     ([0x26#8, 0x10#8], .rolZp0 0x10#8), ([0x2A#8], .rolAcc),
     ([0x2E#8, 0x34#8, 0x12#8], .rolAbs 0x1234#16), ([0x36#8, 0x10#8], .rolZpx 0x10#8),
     ([0x3E#8, 0x34#8, 0x12#8], .rolAbx 0x1234#16), ([0x66#8, 0x10#8], .rorZp0 0x10#8),
     ([0x6A#8], .rorAcc), ([0x6E#8, 0x34#8, 0x12#8], .rorAbs 0x1234#16),
     ([0x76#8, 0x10#8], .rorZpx 0x10#8),
     ([0x7E#8, 0x34#8, 0x12#8], .rorAbx 0x1234#16)] = true := by decide

theorem test_decode_compare : decodesTo
    [([0xC1#8, 0x10#8], .cmpIzx 0x10#8), ([0xC5#8, 0x10#8], .cmpZp0 0x10#8),
     ([0xC9#8, 0x10#8], .cmpImm 0x10#8), ([0xCD#8, 0x34#8, 0x12#8], .cmpAbs 0x1234#16),
     ([0xD1#8, 0x10#8], .cmpIzy 0x10#8), ([0xD5#8, 0x10#8], .cmpZpx 0x10#8),
     ([0xD9#8, 0x34#8, 0x12#8], .cmpAby 0x1234#16), ([0xDD#8, 0x34#8, 0x12#8], .cmpAbx 0x1234#16),
     ([0xE0#8, 0x10#8], .cpxImm 0x10#8), ([0xE4#8, 0x10#8], .cpxZp0 0x10#8),
     ([0xEC#8, 0x34#8, 0x12#8], .cpxAbs 0x1234#16), ([0xC0#8, 0x10#8], .cpyImm 0x10#8),
     ([0xC4#8, 0x10#8], .cpyZp0 0x10#8),
     ([0xCC#8, 0x34#8, 0x12#8], .cpyAbs 0x1234#16)] = true := by decide

theorem test_decode_branch : decodesTo
    [([0x90#8, 0x10#8], .bcc 0x10#8), ([0xB0#8, 0x10#8], .bcs 0x10#8),
     ([0xF0#8, 0x10#8], .beq 0x10#8), ([0xD0#8, 0x10#8], .bne 0x10#8),
     ([0x30#8, 0x10#8], .bmi 0x10#8), ([0x10#8, 0x10#8], .bpl 0x10#8),
     ([0x50#8, 0x10#8], .bvc 0x10#8), ([0x70#8, 0x10#8], .bvs 0x10#8)] = true := by decide

theorem test_decode_stack : decodesTo
    [([0x48#8], .pha), ([0x08#8], .php), ([0x68#8], .pla), ([0x28#8], .plp), ([0xBA#8], .tsx),
     ([0x9A#8], .txs)] = true := by decide

theorem test_decode_jump : decodesTo
    [([0x4C#8, 0x34#8, 0x12#8], .jmpAbs 0x1234#16), ([0x6C#8, 0x34#8, 0x12#8], .jmpInd 0x1234#16),
     ([0x20#8, 0x34#8, 0x12#8], .jsr 0x1234#16), ([0x60#8], .rts),
     ([0x40#8], .rti)] = true := by decide

theorem test_decode_flagOps : decodesTo
    [([0x18#8], .clc), ([0xD8#8], .cld), ([0x58#8], .cli), ([0xB8#8], .clv), ([0x38#8], .sec),
     ([0xF8#8], .sed), ([0x78#8], .sei)] = true := by decide

theorem test_decode_misc : decodesTo
    [([0xEA#8], .nop), ([0x00#8], .brk)] = true := by decide


/-- The undocumented bytes decode to themselves, with no operand (R86). -/
theorem test_decode_undocumented :
    undocumentedOpcodes.map (fun op => decoded [op]) =
      undocumentedOpcodes.map (fun op => some (.undocumented op)) := by decide +kernel

/-- A list that ends before the operand is refused by name. -/
theorem test_decode_truncated :
    decode [0xAD#8, 0x34#8] = .error (.truncated 0xAD#8) ∧ decode [] = .error .noBytes := by decide

/-- The table numbers a later byte's bits upwards; absent operand bits are 0. -/
theorem test_decodeTableWord : decodeTableWord 24 0x1234AD = some (.ldaAbs 0x1234#16) ∧
    decodeTableWord 8 0xAD = some (.ldaAbs 0x0000#16) ∧ decodeTableWord 8 0x02 = some (.undocumented 0x02#8) := by
  decide

theorem test_encode : encode (.jmpInd 0x1234#16) = [0x6C#8, 0x34#8, 0x12#8] := by decide

/-! ## One-step vectors (spec/95_test_vectors.md section 2 but where said otherwise) -/

/-- A memory that holds the given bytes. -/
def memoryOf (bytes : List (Word × Byte)) : Memory :=
  bytes.foldl (fun m c => m.write c.1 c.2) []

/-- Code at an address, as cells. -/
def codeAt : Word → List Byte → List (Word × Byte)
  | _, [] => []
  | a, b :: rest => (a, b) :: codeAt (a + 1) rest

/-- The construction state with a bus attached, the code and the data in memory, and PC at the code. -/
def bench (at_ : Word) (code : List Byte) (data : List (Word × Byte)) : State :=
  ((State.construct.setBusAttached true).setPc at_).setMem (memoryOf (codeAt at_ code ++ data))

/-- One step from `s` ends with these registers, these bytes and this number of pulses (R280). -/
def ends (s : State) (a x y sp p : Byte) (pc : Word) (data : List (Word × Byte)) (pulses : Nat) :
    Bool :=
  match step s with
  | .next t => t.a == a && t.x == x && t.y == y && t.sp == sp && t.p == p && t.pc == pc &&
      t.remaining + 1 == pulses && data.all fun c => t.mem.read c.1 == c.2
  | .fault _ => false
  | .refused _ => false

/-- LDA #$00 sets Z. -/
theorem test_ldaImm : ends ((bench 0x0200#16 [0xA9#8, 0x00#8] []).setP 0x20#8) 0x00#8 0x00#8
    0x00#8 0xFF#8 0x22#8 0x0202#16 [] 2 = true := by decide
/-- LDA #$80 sets N. -/
theorem test_ldaImm_2 : ends ((bench 0x0200#16 [0xA9#8, 0x80#8] []).setP 0x22#8) 0x80#8 0x00#8
    0x00#8 0xFF#8 0xA0#8 0x0202#16 [] 2 = true := by decide
/-- LDA $1234,X no cross. -/
theorem test_ldaAbx : ends (((bench 0x0200#16 [0xBD#8, 0x34#8, 0x12#8] [(0x1235#16, 0x55#8)]).setX
    0x01#8).setP 0x20#8) 0x55#8 0x01#8 0x00#8 0xFF#8 0x20#8 0x0203#16 [] 4 = true := by decide
/-- LDA $12FF,X cross (+1). -/
theorem test_ldaAbx_2 : ends (((bench 0x0200#16 [0xBD#8, 0xFF#8, 0x12#8] [(0x1300#16,
    0x66#8)]).setX 0x01#8).setP 0x20#8) 0x66#8 0x01#8 0x00#8 0xFF#8 0x20#8 0x0203#16 [] 5 = true
    := by decide
/-- LDA $FFFF,Y wraps to $0000 (cross). -/
theorem test_ldaAby : ends (((bench 0x0200#16 [0xB9#8, 0xFF#8, 0xFF#8] [(0x0000#16, 0x77#8)]).setY
    0x01#8).setP 0x20#8) 0x77#8 0x00#8 0x01#8 0xFF#8 0x20#8 0x0203#16 [] 5 = true := by decide
/-- LDA ($FF,X) X=0: pointer hi from $0000. -/
theorem test_ldaIzx : ends (((bench 0x0200#16 [0xA1#8, 0xFF#8] [(0x00FF#16, 0x34#8), (0x0000#16,
    0x12#8), (0x1234#16, 0x99#8)]).setX 0x00#8).setP 0x20#8) 0x99#8 0x00#8 0x00#8 0xFF#8 0xA0#8
    0x0202#16 [] 6 = true := by decide
/-- LDA ($10),Y cross. -/
theorem test_ldaIzy : ends (((bench 0x0200#16 [0xB1#8, 0x10#8] [(0x0010#16, 0xF0#8), (0x0011#16,
    0x12#8), (0x1310#16, 0x01#8)]).setY 0x20#8).setP 0x20#8) 0x01#8 0x00#8 0x20#8 0xFF#8 0x20#8
    0x0202#16 [] 6 = true := by decide
/-- LDA ($FF),Y pointer hi from $0000. -/
theorem test_ldaIzy_2 : ends (((bench 0x0200#16 [0xB1#8, 0xFF#8] [(0x00FF#16, 0x00#8), (0x0000#16,
    0x30#8), (0x3000#16, 0x42#8)]).setY 0x00#8).setP 0x20#8) 0x42#8 0x00#8 0x00#8 0xFF#8 0x20#8
    0x0202#16 [] 5 = true := by decide
/-- LDX $F0,Y wraps in zero page. -/
theorem test_ldxZpy : ends (((bench 0x0200#16 [0xB6#8, 0xF0#8] [(0x0010#16, 0xAB#8)]).setY
    0x20#8).setP 0x20#8) 0x00#8 0xAB#8 0x20#8 0xFF#8 0xA0#8 0x0202#16 [] 4 = true := by decide
/-- LDY $F0,X wraps in zero page. -/
theorem test_ldyZpx : ends (((bench 0x0200#16 [0xB4#8, 0xF0#8] [(0x0010#16, 0x00#8)]).setX
    0x20#8).setP 0x20#8) 0x00#8 0x20#8 0x00#8 0xFF#8 0x22#8 0x0202#16 [] 4 = true := by decide
/-- STA $12FF,X cross: no penalty. -/
theorem test_staAbx : ends ((((bench 0x0200#16 [0x9D#8, 0xFF#8, 0x12#8] []).setA 0x42#8).setX
    0x01#8).setP 0x20#8) 0x42#8 0x01#8 0x00#8 0xFF#8 0x20#8 0x0203#16 [(0x1300#16, 0x42#8)] 5 =
    true := by decide
/-- STA ($10),Y cross: no penalty. -/
theorem test_staIzy : ends ((((bench 0x0200#16 [0x91#8, 0x10#8] [(0x0010#16, 0xF0#8), (0x0011#16,
    0x12#8)]).setA 0x42#8).setY 0x20#8).setP 0x20#8) 0x42#8 0x00#8 0x20#8 0xFF#8 0x20#8 0x0202#16
    [(0x1310#16, 0x42#8)] 6 = true := by decide
/-- STX $FF,Y wraps. -/
theorem test_stxZpy : ends ((((bench 0x0200#16 [0x96#8, 0xFF#8] []).setX 0x05#8).setY 0x02#8).setP
    0x20#8) 0x00#8 0x05#8 0x02#8 0xFF#8 0x20#8 0x0202#16 [(0x0001#16, 0x05#8)] 4 = true := by
    decide
/-- STY $80. -/
theorem test_styZp0 : ends (((bench 0x0200#16 [0x84#8, 0x80#8] []).setY 0x99#8).setP 0xE3#8)
    0x00#8 0x00#8 0x99#8 0xFF#8 0xE3#8 0x0202#16 [(0x0080#16, 0x99#8)] 3 = true := by decide
/-- TAX A=0. -/
theorem test_tax : ends ((((bench 0x0200#16 [0xAA#8] []).setA 0x00#8).setX 0x55#8).setP 0x20#8)
    0x00#8 0x00#8 0x00#8 0xFF#8 0x22#8 0x0201#16 [] 2 = true := by decide
/-- TXA X=0xFF. -/
theorem test_txa : ends ((((bench 0x0200#16 [0x8A#8] []).setA 0x00#8).setX 0xFF#8).setP 0x20#8)
    0xFF#8 0xFF#8 0x00#8 0xFF#8 0xA0#8 0x0201#16 [] 2 = true := by decide
/-- TAY A=0x7F. -/
theorem test_tay : ends (((bench 0x0200#16 [0xA8#8] []).setA 0x7F#8).setP 0xA2#8) 0x7F#8 0x00#8
    0x7F#8 0xFF#8 0x20#8 0x0201#16 [] 2 = true := by decide
/-- TYA Y=0x00. -/
theorem test_tya : ends ((((bench 0x0200#16 [0x98#8] []).setA 0x12#8).setY 0x00#8).setP 0x20#8)
    0x00#8 0x00#8 0x00#8 0xFF#8 0x22#8 0x0201#16 [] 2 = true := by decide
/-- ADC 0x7F+0x01 C=0: V. -/
theorem test_adcImm : ends (((bench 0x0200#16 [0x69#8, 0x01#8] []).setA 0x7F#8).setP 0x20#8)
    0x80#8 0x00#8 0x00#8 0xFF#8 0xE0#8 0x0202#16 [] 2 = true := by decide
/-- ADC with D=1 is binary. -/
theorem test_adcImm_2 : ends (((bench 0x0200#16 [0x69#8, 0x01#8] []).setA 0x09#8).setP 0x28#8)
    0x0A#8 0x00#8 0x00#8 0xFF#8 0x28#8 0x0202#16 [] 2 = true := by decide
/-- SBC 0x80-0x01 C=1: V. -/
theorem test_sbcImm : ends (((bench 0x0200#16 [0xE9#8, 0x01#8] []).setA 0x80#8).setP 0x21#8)
    0x7F#8 0x00#8 0x00#8 0xFF#8 0x61#8 0x0202#16 [] 2 = true := by decide
/-- SBC 0x05-0x05 C=0: borrow in. -/
theorem test_sbcImm_2 : ends (((bench 0x0200#16 [0xE9#8, 0x05#8] []).setA 0x05#8).setP 0x20#8)
    0xFF#8 0x00#8 0x00#8 0xFF#8 0xA0#8 0x0202#16 [] 2 = true := by decide
/-- AND #$0F A=0xF0. -/
theorem test_andImm : ends (((bench 0x0200#16 [0x29#8, 0x0F#8] []).setA 0xF0#8).setP 0xE1#8)
    0x00#8 0x00#8 0x00#8 0xFF#8 0x63#8 0x0202#16 [] 2 = true := by decide
/-- ORA #$01 A=0x80. -/
theorem test_oraImm : ends (((bench 0x0200#16 [0x09#8, 0x01#8] []).setA 0x80#8).setP 0x20#8)
    0x81#8 0x00#8 0x00#8 0xFF#8 0xA0#8 0x0202#16 [] 2 = true := by decide
/-- EOR #$FF A=0xFF. -/
theorem test_eorImm : ends (((bench 0x0200#16 [0x49#8, 0xFF#8] []).setA 0xFF#8).setP 0x20#8)
    0x00#8 0x00#8 0x00#8 0xFF#8 0x22#8 0x0202#16 [] 2 = true := by decide
/-- BIT $10 m=0xC0 A=0x01. -/
theorem test_bitZp0 : ends (((bench 0x0200#16 [0x24#8, 0x10#8] [(0x0010#16, 0xC0#8)]).setA
    0x01#8).setP 0x20#8) 0x01#8 0x00#8 0x00#8 0xFF#8 0xE2#8 0x0202#16 [] 3 = true := by decide
/-- BIT $10 m=0x3F A=0x01. -/
theorem test_bitZp0_2 : ends (((bench 0x0200#16 [0x24#8, 0x10#8] [(0x0010#16, 0x3F#8)]).setA
    0x01#8).setP 0xE2#8) 0x01#8 0x00#8 0x00#8 0xFF#8 0x20#8 0x0202#16 [] 3 = true := by decide
/-- INC $10 0xFF->0x00. -/
theorem test_incZp0 : ends ((bench 0x0200#16 [0xE6#8, 0x10#8] [(0x0010#16, 0xFF#8)]).setP 0x21#8)
    0x00#8 0x00#8 0x00#8 0xFF#8 0x23#8 0x0202#16 [(0x0010#16, 0x00#8)] 5 = true := by decide
/-- DEC $10 0x00->0xFF. -/
theorem test_decZp0 : ends ((bench 0x0200#16 [0xC6#8, 0x10#8] [(0x0010#16, 0x00#8)]).setP 0x20#8)
    0x00#8 0x00#8 0x00#8 0xFF#8 0xA0#8 0x0202#16 [(0x0010#16, 0xFF#8)] 5 = true := by decide
/-- INC $12FF,X cross: 7 always. -/
theorem test_incAbx : ends (((bench 0x0200#16 [0xFE#8, 0xFF#8, 0x12#8] [(0x1300#16, 0x7F#8)]).setX
    0x01#8).setP 0x20#8) 0x00#8 0x01#8 0x00#8 0xFF#8 0xA0#8 0x0203#16 [(0x1300#16, 0x80#8)] 7 =
    true := by decide
/-- INX 0xFF. -/
theorem test_inx : ends (((bench 0x0200#16 [0xE8#8] []).setX 0xFF#8).setP 0x20#8) 0x00#8 0x00#8
    0x00#8 0xFF#8 0x22#8 0x0201#16 [] 2 = true := by decide
/-- DEY 0x00. -/
theorem test_dey : ends (((bench 0x0200#16 [0x88#8] []).setY 0x00#8).setP 0x20#8) 0x00#8 0x00#8
    0xFF#8 0xFF#8 0xA0#8 0x0201#16 [] 2 = true := by decide
/-- ASL A 0x81. -/
theorem test_aslAcc : ends (((bench 0x0200#16 [0x0A#8] []).setA 0x81#8).setP 0x20#8) 0x02#8 0x00#8
    0x00#8 0xFF#8 0x21#8 0x0201#16 [] 2 = true := by decide
/-- ASL $10 0x80. -/
theorem test_aslZp0 : ends ((bench 0x0200#16 [0x06#8, 0x10#8] [(0x0010#16, 0x80#8)]).setP 0x20#8)
    0x00#8 0x00#8 0x00#8 0xFF#8 0x23#8 0x0202#16 [(0x0010#16, 0x00#8)] 5 = true := by decide
/-- LSR A 0x01. -/
theorem test_lsrAcc : ends (((bench 0x0200#16 [0x4A#8] []).setA 0x01#8).setP 0xA0#8) 0x00#8 0x00#8
    0x00#8 0xFF#8 0x23#8 0x0201#16 [] 2 = true := by decide
/-- ROL A 0x80 C=0. -/
theorem test_rolAcc : ends (((bench 0x0200#16 [0x2A#8] []).setA 0x80#8).setP 0x20#8) 0x00#8 0x00#8
    0x00#8 0xFF#8 0x23#8 0x0201#16 [] 2 = true := by decide
/-- ROL A 0x7F C=1. -/
theorem test_rolAcc_2 : ends (((bench 0x0200#16 [0x2A#8] []).setA 0x7F#8).setP 0x21#8) 0xFF#8
    0x00#8 0x00#8 0xFF#8 0xA0#8 0x0201#16 [] 2 = true := by decide
/-- ROR A 0x01 C=1. -/
theorem test_rorAcc : ends (((bench 0x0200#16 [0x6A#8] []).setA 0x01#8).setP 0x21#8) 0x80#8 0x00#8
    0x00#8 0xFF#8 0xA1#8 0x0201#16 [] 2 = true := by decide
/-- ROR $10 0x02 C=0. -/
theorem test_rorZp0 : ends ((bench 0x0200#16 [0x66#8, 0x10#8] [(0x0010#16, 0x02#8)]).setP 0x20#8)
    0x00#8 0x00#8 0x00#8 0xFF#8 0x20#8 0x0202#16 [(0x0010#16, 0x01#8)] 5 = true := by decide
/-- CMP #$20 A=0x10. -/
theorem test_cmpImm : ends (((bench 0x0200#16 [0xC9#8, 0x20#8] []).setA 0x10#8).setP 0x20#8)
    0x10#8 0x00#8 0x00#8 0xFF#8 0xA0#8 0x0202#16 [] 2 = true := by decide
/-- CMP #$81 A=0x00. -/
theorem test_cmpImm_2 : ends (((bench 0x0200#16 [0xC9#8, 0x81#8] []).setA 0x00#8).setP 0x20#8)
    0x00#8 0x00#8 0x00#8 0xFF#8 0x20#8 0x0202#16 [] 2 = true := by decide
/-- CPX #$20 X=0x20. -/
theorem test_cpxImm : ends (((bench 0x0200#16 [0xE0#8, 0x20#8] []).setX 0x20#8).setP 0x20#8)
    0x00#8 0x20#8 0x00#8 0xFF#8 0x23#8 0x0202#16 [] 2 = true := by decide
/-- CPY #$01 Y=0x80. -/
theorem test_cpyImm : ends (((bench 0x0200#16 [0xC0#8, 0x01#8] []).setY 0x80#8).setP 0x20#8)
    0x00#8 0x00#8 0x80#8 0xFF#8 0x21#8 0x0202#16 [] 2 = true := by decide
/-- BNE not taken (Z=1). -/
theorem test_bne : ends ((bench 0x0200#16 [0xD0#8, 0x05#8] []).setP 0x22#8) 0x00#8 0x00#8 0x00#8
    0xFF#8 0x22#8 0x0202#16 [] 2 = true := by decide
/-- BNE taken back across page. -/
theorem test_bne_2 : ends ((bench 0x0200#16 [0xD0#8, 0xFC#8] []).setP 0x20#8) 0x00#8 0x00#8 0x00#8
    0xFF#8 0x20#8 0x01FE#16 [] 4 = true := by decide
/-- BEQ taken forward across page. -/
theorem test_beq : ends ((bench 0x0200#16 [0xF0#8, 0x7F#8] []).setP 0x22#8) 0x00#8 0x00#8 0x00#8
    0xFF#8 0x22#8 0x0281#16 [] 3 = true := by decide
/-- BMI to itself. -/
theorem test_bmi : ends ((bench 0x0200#16 [0x30#8, 0xFE#8] []).setP 0xA0#8) 0x00#8 0x00#8 0x00#8
    0xFF#8 0xA0#8 0x0200#16 [] 3 = true := by decide
/-- BCC taken. -/
theorem test_bcc : ends ((bench 0x0200#16 [0x90#8, 0x10#8] []).setP 0x20#8) 0x00#8 0x00#8 0x00#8
    0xFF#8 0x20#8 0x0212#16 [] 3 = true := by decide
/-- BCS not taken. -/
theorem test_bcs : ends ((bench 0x0200#16 [0xB0#8, 0x10#8] []).setP 0x20#8) 0x00#8 0x00#8 0x00#8
    0xFF#8 0x20#8 0x0202#16 [] 2 = true := by decide
/-- BPL taken -128. -/
theorem test_bpl : ends ((bench 0x0200#16 [0x10#8, 0x80#8] []).setP 0x20#8) 0x00#8 0x00#8 0x00#8
    0xFF#8 0x20#8 0x0182#16 [] 4 = true := by decide
/-- BVC taken. -/
theorem test_bvc : ends ((bench 0x0200#16 [0x50#8, 0x02#8] []).setP 0x20#8) 0x00#8 0x00#8 0x00#8
    0xFF#8 0x20#8 0x0204#16 [] 3 = true := by decide
/-- BVS not taken. -/
theorem test_bvs : ends ((bench 0x0200#16 [0x70#8, 0x02#8] []).setP 0x20#8) 0x00#8 0x00#8 0x00#8
    0xFF#8 0x20#8 0x0202#16 [] 2 = true := by decide
/-- PHA SP=0x00 wraps. -/
theorem test_pha : ends ((((bench 0x0200#16 [0x48#8] []).setA 0x33#8).setSp 0x00#8).setP 0x20#8)
    0x33#8 0x00#8 0x00#8 0xFF#8 0x20#8 0x0201#16 [(0x0100#16, 0x33#8)] 3 = true := by decide
/-- PHP P=0x20. -/
theorem test_php : ends (((bench 0x0200#16 [0x08#8] []).setSp 0xFD#8).setP 0x20#8) 0x00#8 0x00#8
    0x00#8 0xFC#8 0x20#8 0x0201#16 [(0x01FD#16, 0x30#8)] 3 = true := by decide
/-- PLA SP=0xFF wraps. -/
theorem test_pla : ends (((bench 0x0200#16 [0x68#8] [(0x0100#16, 0x80#8)]).setSp 0xFF#8).setP
    0x20#8) 0x80#8 0x00#8 0x00#8 0x00#8 0xA0#8 0x0201#16 [] 4 = true := by decide
/-- PLP pulls 0xFF. -/
theorem test_plp : ends (((bench 0x0200#16 [0x28#8] [(0x01FD#16, 0xFF#8)]).setSp 0xFC#8).setP
    0x20#8) 0x00#8 0x00#8 0x00#8 0xFD#8 0xEF#8 0x0201#16 [] 4 = true := by decide
/-- PLP pulls 0x00. -/
theorem test_plp_2 : ends (((bench 0x0200#16 [0x28#8] [(0x01FD#16, 0x00#8)]).setSp 0xFC#8).setP
    0xFF#8) 0x00#8 0x00#8 0x00#8 0xFD#8 0x20#8 0x0201#16 [] 4 = true := by decide
/-- TSX SP=0x00. -/
theorem test_tsx : ends (((bench 0x0200#16 [0xBA#8] []).setSp 0x00#8).setP 0xA0#8) 0x00#8 0x00#8
    0x00#8 0x00#8 0x22#8 0x0201#16 [] 2 = true := by decide
/-- TXS X=0x80 no flags. -/
theorem test_txs : ends ((((bench 0x0200#16 [0x9A#8] []).setX 0x80#8).setSp 0xFD#8).setP 0x22#8)
    0x00#8 0x80#8 0x00#8 0x80#8 0x22#8 0x0201#16 [] 2 = true := by decide
/-- JMP $C000. -/
theorem test_jmpAbs : ends ((bench 0x0200#16 [0x4C#8, 0x00#8, 0xC0#8] []).setP 0x20#8) 0x00#8
    0x00#8 0x00#8 0xFF#8 0x20#8 0xC000#16 [] 3 = true := by decide
/-- JMP ($02FF) page-wrap quirk. -/
theorem test_jmpInd : ends ((bench 0x0200#16 [0x6C#8, 0xFF#8, 0x02#8] [(0x02FF#16, 0x34#8),
    (0x0300#16, 0x56#8)]).setP 0x20#8) 0x00#8 0x00#8 0x00#8 0xFF#8 0x20#8 0x6C34#16 [] 5 = true :=
    by decide
/-- JSR $0300. -/
theorem test_jsr : ends (((bench 0x0200#16 [0x20#8, 0x00#8, 0x03#8] []).setSp 0xFD#8).setP 0x20#8)
    0x00#8 0x00#8 0x00#8 0xFB#8 0x20#8 0x0300#16 [(0x01FC#16, 0x02#8), (0x01FD#16, 0x02#8)] 6 =
    true := by decide
/-- RTS pulls 0x0202. -/
theorem test_rts : ends (((bench 0x0200#16 [0x60#8] [(0x01FC#16, 0x02#8), (0x01FD#16,
    0x02#8)]).setSp 0xFB#8).setP 0x20#8) 0x00#8 0x00#8 0x00#8 0xFD#8 0x20#8 0x0203#16 [] 6 = true
    := by decide
/-- RTS pulls 0xFFFF. -/
theorem test_rts_2 : ends (((bench 0x0200#16 [0x60#8] [(0x01FC#16, 0xFF#8), (0x01FD#16,
    0xFF#8)]).setSp 0xFB#8).setP 0x20#8) 0x00#8 0x00#8 0x00#8 0xFD#8 0x20#8 0x0000#16 [] 6 = true
    := by decide
/-- RTI. -/
theorem test_rti : ends (((bench 0x0200#16 [0x40#8] [(0x01FB#16, 0xC3#8), (0x01FC#16, 0x34#8),
    (0x01FD#16, 0x12#8)]).setSp 0xFA#8).setP 0x24#8) 0x00#8 0x00#8 0x00#8 0xFD#8 0xE3#8 0x1234#16
    [] 6 = true := by decide
/-- CLC. -/
theorem test_clc : ends ((bench 0x0200#16 [0x18#8] []).setP 0x25#8) 0x00#8 0x00#8 0x00#8 0xFF#8
    0x24#8 0x0201#16 [] 2 = true := by decide
/-- SEC. -/
theorem test_sec : ends ((bench 0x0200#16 [0x38#8] []).setP 0x24#8) 0x00#8 0x00#8 0x00#8 0xFF#8
    0x25#8 0x0201#16 [] 2 = true := by decide
/-- CLI. -/
theorem test_cli : ends ((bench 0x0200#16 [0x58#8] []).setP 0x24#8) 0x00#8 0x00#8 0x00#8 0xFF#8
    0x20#8 0x0201#16 [] 2 = true := by decide
/-- SEI. -/
theorem test_sei : ends ((bench 0x0200#16 [0x78#8] []).setP 0x20#8) 0x00#8 0x00#8 0x00#8 0xFF#8
    0x24#8 0x0201#16 [] 2 = true := by decide
/-- CLV. -/
theorem test_clv : ends ((bench 0x0200#16 [0xB8#8] []).setP 0x64#8) 0x00#8 0x00#8 0x00#8 0xFF#8
    0x24#8 0x0201#16 [] 2 = true := by decide
/-- CLD. -/
theorem test_cld : ends ((bench 0x0200#16 [0xD8#8] []).setP 0x2C#8) 0x00#8 0x00#8 0x00#8 0xFF#8
    0x24#8 0x0201#16 [] 2 = true := by decide
/-- SED. -/
theorem test_sed : ends ((bench 0x0200#16 [0xF8#8] []).setP 0x24#8) 0x00#8 0x00#8 0x00#8 0xFF#8
    0x2C#8 0x0201#16 [] 2 = true := by decide
/-- NOP. -/
theorem test_nop : ends ((bench 0x0200#16 [0xEA#8] []).setP 0x20#8) 0x00#8 0x00#8 0x00#8 0xFF#8
    0x20#8 0x0201#16 [] 2 = true := by decide
/-- BRK with I=0. -/
theorem test_brk : ends (((bench 0x0200#16 [0x00#8, 0xEA#8] [(0xFFFE#16, 0x00#8), (0xFFFF#16,
    0x80#8)]).setSp 0xFD#8).setP 0x20#8) 0x00#8 0x00#8 0x00#8 0xFA#8 0x24#8 0x8000#16 [(0x01FB#16,
    0x30#8), (0x01FC#16, 0x02#8), (0x01FD#16, 0x02#8)] 7 = true := by decide
/-- BRK with I=1 still taken. -/
theorem test_brk_2 : ends (((bench 0x0200#16 [0x00#8, 0xEA#8] [(0xFFFE#16, 0x00#8), (0xFFFF#16,
    0x80#8)]).setSp 0xFD#8).setP 0x24#8) 0x00#8 0x00#8 0x00#8 0xFA#8 0x24#8 0x8000#16 [(0x01FB#16,
    0x34#8), (0x01FC#16, 0x02#8), (0x01FD#16, 0x02#8)] 7 = true := by decide
/-- ROL $10 C=1 (section 2, corner checks). -/
theorem test_rolZp0 : ends ((bench 0x0200#16 [0x26#8, 0x10#8] [(0x0010#16, 0x80#8)]).setP 0x21#8)
    0x00#8 0x00#8 0x00#8 0xFF#8 0x21#8 0x0202#16 [(0x0010#16, 0x01#8)] 5 = true := by decide
/-- LSR $10 zero (section 2, corner checks (cycles of R161)). -/
theorem test_lsrZp0 : ends ((bench 0x0200#16 [0x46#8, 0x10#8] []).setP 0xA0#8) 0x00#8 0x00#8
    0x00#8 0xFF#8 0x22#8 0x0202#16 [(0x0010#16, 0x00#8)] 5 = true := by decide
/-- JMP ($10FF) wraps (section 2, corner checks). -/
theorem test_jmpInd_2 : ends ((bench 0x0200#16 [0x6C#8, 0xFF#8, 0x10#8] [(0x10FF#16, 0x00#8),
    (0x1000#16, 0x40#8), (0x1100#16, 0x50#8)]).setP 0x20#8) 0x00#8 0x00#8 0x00#8 0xFF#8 0x20#8
    0x4000#16 [] 5 = true := by decide
/-- INY 0xFF (R151 example). -/
theorem test_iny : ends (((bench 0x0200#16 [0xC8#8] []).setY 0xFF#8).setP 0x20#8) 0x00#8 0x00#8
    0x00#8 0xFF#8 0x22#8 0x0201#16 [] 2 = true := by decide
/-- DEX 0x00 (R152 example). -/
theorem test_dex : ends (((bench 0x0200#16 [0xCA#8] []).setX 0x00#8).setP 0x20#8) 0x00#8 0xFF#8
    0x00#8 0xFF#8 0xA0#8 0x0201#16 [] 2 = true := by decide
/-- BVS wraps past 0xFFFF (R188 corner case). -/
theorem test_bvs_2 : ends ((bench 0xFFF8#16 [0x70#8, 0x10#8] []).setP 0x60#8) 0x00#8 0x00#8 0x00#8
    0xFF#8 0x60#8 0x000A#16 [] 4 = true := by decide

/-! ## Host calls (spec/95_test_vectors.md section 1) -/

/-- W1's second pulse only counts. -/
theorem test_w1_two_pulses :
    let t := performAll [.clock, .clock] (bench 0x0000#16 [0xA9#8, 0x10#8] [])
    t.a = 0x10#8 ∧ t.pc = 0x0002#16 ∧ t.remaining = 0 ∧ t.totalCycles = 2 := by decide

/-- W3, second row: a word read at 0xFFFF wraps. -/
theorem test_w3_wrap :
    Memory.readWord (memoryOf [(0xFFFF#16, 0x11#8), (0x0000#16, 0x22#8)]) 0xFFFF#16 = 0x2211#16 := by
  decide

/-- W4, second row: reset does not depend on the prior state. -/
theorem test_w4_reset :
    let s := ((((bench 0x1234#16 [] [(0xFFFC#16, 0x00#8), (0xFFFD#16, 0x80#8)]).setA 0x55#8).setX
      0x66#8).setSp 0x10#8).setP 0xFF#8
    let t := perform .reset s
    t.a = 0x00#8 ∧ t.x = 0x00#8 ∧ t.sp = 0xFD#8 ∧ t.p = 0x24#8 ∧ t.pc = 0x8000#16 ∧
      t.remaining = 7 ∧ callAccesses .reset s = [.read 0xFFFC#16 0x00#8, .read 0xFFFD#16 0x80#8] := by
  decide

/-- W5: a masked IRQ changes nothing. -/
theorem test_w5_masked_irq :
    let s := ((bench 0x0400#16 [] []).setSp 0xFD#8).setP 0x24#8
    perform .irq s = s ∧ callAccesses .irq s = [] := by decide

/-- W8, and its trace in section 3: an NMI with I = 1. -/
theorem test_w8_nmi :
    let s := ((bench 0x1234#16 [] [(0xFFFA#16, 0x00#8), (0xFFFB#16, 0xA0#8)]).setSp 0xFD#8).setP 0x24#8
    let t := perform .nmi s
    t.sp = 0xFA#8 ∧ t.p = 0x24#8 ∧ t.pc = 0xA000#16 ∧ t.remaining = 7 ∧
      callAccesses .nmi s = [.write 0x01FD#16 0x12#8, .write 0x01FC#16 0x34#8,
        .write 0x01FB#16 0x24#8, .read 0xFFFA#16 0x00#8, .read 0xFFFB#16 0xA0#8] := by
  decide

/-- Section 3's IRQ trace. -/
theorem test_irq_trace :
    callAccesses .irq (((bench 0x1234#16 [] [(0xFFFE#16, 0x00#8), (0xFFFF#16, 0x90#8)]).setSp
      0xFD#8).setP 0x20#8) = [.write 0x01FD#16 0x12#8, .write 0x01FC#16 0x34#8,
        .write 0x01FB#16 0x20#8, .read 0xFFFE#16 0x00#8, .read 0xFFFF#16 0x90#8] := by
  decide

/-- W10: an undocumented opcode is refused, and every later pulse changes nothing. -/
theorem test_w10_undocumented :
    let s := bench 0x0400#16 [0x02#8] []
    let t := perform .clock s
    t.refused = some (.illegalOpcode 0x02#8 0x0400#16) ∧ t.pc = 0x0400#16 ∧ t.remaining = 0 ∧
      t.totalCycles = 0 ∧ callAccesses .clock s = [.read 0x0400#16 0x02#8] ∧
      perform .clock t = t := by decide

/-- W11: a trigger while Busy is refused; one pulse later it is permitted. -/
theorem test_w11_busy_trigger :
    let t := perform .clock (bench 0x0000#16 [0xA9#8, 0x10#8] [])
    (perform .nmi t).refused = some (.busyTrigger .nmi) ∧ (perform .nmi t).pc = 0x0002#16 ∧
      (performAll [.clock, .nmi] t).remaining = 7 := by decide

/-- W12: no bus. -/
theorem test_w12_no_bus :
    perform .clock State.construct = State.construct.setRefused (some .noBus) := by decide

/-- The machine right after reset waits 7 pulses and then fetches at the reset vector's content; with
nothing placed that is a BRK at 0x0000 (log 2). -/
theorem test_reset_waits_seven :
    (performAll (List.replicate 7 .clock) State.reset).remaining = 0 ∧
      (performAll (List.replicate 7 .clock) State.reset).pc = 0x0000#16 ∧
      fetchInstr (performAll (List.replicate 7 .clock) State.reset) = .brk := by decide

/-- `withFetchWord` makes the very next step run the instruction. -/
theorem test_withFetchWord :
    fetchInstr (State.reset.withFetchWord 24 0x1234BD) = .ldaAbx 0x1234#16 ∧
      (perform .clock (State.reset.withFetchWord 8 0xA9)).remaining = 1 := by decide

/-! ## Bus traces (spec/95_test_vectors.md section 3) -/

theorem test_trace_lda_abx :
    callAccesses .clock ((bench 0x0200#16 [0xBD#8, 0xFF#8, 0x12#8] [(0x1300#16, 0x66#8)]).setX 0x01#8)
      = [.read 0x0200#16 0xBD#8, .read 0x0201#16 0xFF#8, .read 0x0202#16 0x12#8,
        .read 0x1300#16 0x66#8] := by decide

theorem test_trace_sta_zp0 :
    callAccesses .clock ((bench 0x0200#16 [0x85#8, 0x10#8] []).setA 0x42#8)
      = [.read 0x0200#16 0x85#8, .read 0x0201#16 0x10#8, .write 0x0010#16 0x42#8] := by
  decide

theorem test_trace_inc_zp0 :
    callAccesses .clock (bench 0x0200#16 [0xE6#8, 0x10#8] [(0x0010#16, 0x7F#8)])
      = [.read 0x0200#16 0xE6#8, .read 0x0201#16 0x10#8, .read 0x0010#16 0x7F#8,
        .write 0x0010#16 0x80#8] := by decide

theorem test_trace_asl_acc :
    callAccesses .clock (bench 0x0200#16 [0x0A#8] []) = [.read 0x0200#16 0x0A#8] := by
  decide

theorem test_trace_lda_izx :
    callAccesses .clock (bench 0x0200#16 [0xA1#8, 0xFF#8]
        [(0x00FF#16, 0x34#8), (0x0000#16, 0x12#8), (0x1234#16, 0x99#8)])
      = [.read 0x0200#16 0xA1#8, .read 0x0201#16 0xFF#8, .read 0x00FF#16 0x34#8,
        .read 0x0000#16 0x12#8, .read 0x1234#16 0x99#8] := by decide

theorem test_trace_jmp_ind :
    callAccesses .clock (bench 0x0200#16 [0x6C#8, 0xFF#8, 0x02#8] [(0x02FF#16, 0x34#8)])
      = [.read 0x0200#16 0x6C#8, .read 0x0201#16 0xFF#8, .read 0x0202#16 0x02#8,
        .read 0x02FF#16 0x34#8, .read 0x0200#16 0x6C#8] := by decide

theorem test_trace_jsr :
    callAccesses .clock ((bench 0x0200#16 [0x20#8, 0x00#8, 0x03#8] []).setSp 0xFD#8)
      = [.read 0x0200#16 0x20#8, .read 0x0201#16 0x00#8, .read 0x0202#16 0x03#8,
        .write 0x01FD#16 0x02#8, .write 0x01FC#16 0x02#8] := by decide

theorem test_trace_rts :
    callAccesses .clock ((bench 0x0200#16 [0x60#8] [(0x01FC#16, 0x02#8), (0x01FD#16, 0x02#8)]).setSp
      0xFB#8) = [.read 0x0200#16 0x60#8, .read 0x01FC#16 0x02#8, .read 0x01FD#16 0x02#8] := by
  decide

theorem test_trace_php :
    callAccesses .clock (((bench 0x0200#16 [0x08#8] []).setSp 0xFD#8).setP 0x20#8)
      = [.read 0x0200#16 0x08#8, .write 0x01FD#16 0x30#8] := by decide

theorem test_trace_pla :
    callAccesses .clock ((bench 0x0200#16 [0x68#8] [(0x01FD#16, 0x80#8)]).setSp 0xFC#8)
      = [.read 0x0200#16 0x68#8, .read 0x01FD#16 0x80#8] := by decide

theorem test_trace_brk :
    callAccesses .clock (((bench 0x0200#16 [0x00#8] [(0xFFFF#16, 0x80#8)]).setSp 0xFD#8).setP 0x20#8)
      = [.read 0x0200#16 0x00#8, .write 0x01FD#16 0x02#8, .write 0x01FC#16 0x02#8,
        .write 0x01FB#16 0x30#8, .read 0xFFFE#16 0x00#8, .read 0xFFFF#16 0x80#8] := by
  decide

theorem test_trace_rti :
    callAccesses .clock ((bench 0x0200#16 [0x40#8]
        [(0x01FB#16, 0xC3#8), (0x01FC#16, 0x34#8), (0x01FD#16, 0x12#8)]).setSp 0xFA#8)
      = [.read 0x0200#16 0x40#8, .read 0x01FB#16 0xC3#8, .read 0x01FC#16 0x34#8,
        .read 0x01FD#16 0x12#8] := by decide

theorem test_trace_bne_taken :
    callAccesses .clock (bench 0x0200#16 [0xD0#8, 0x05#8] [])
      = [.read 0x0200#16 0xD0#8, .read 0x0201#16 0x05#8] := by decide

/-! ## Witnesses: a state and operands that meet the hypotheses of each obligation that has some, and of
each of its clauses, at a boundary value where the clause has one -/

theorem witness_StepRunsDecodedInstruction :
    let s := bench 0xFFFF#16 [0xA9#8, 0x10#8] []
    s.AtBoundary ∧ decode [s.mem.read s.pc, s.mem.read (s.pc + 1), s.mem.read (s.pc + 2)] =
      .ok (.ldaImm 0x10#8, [0x00#8]) := by decide

theorem witness_DecodeOfEncode :
    Instr.WellFormed .brk ∧ Instr.WellFormed (.undocumented 0x02#8) ∧
      Instr.WellFormed (.undocumented 0xFF#8) := by decide

theorem witness_EncodeOfDecode :
    decode [0xAD#8, 0x34#8, 0x12#8, 0xEA#8] = .ok (.ldaAbs 0x1234#16, [0xEA#8]) := by decide

theorem witness_OpcodeTableIsTotal : 0x02#8 ∈ undocumentedOpcodes ∧ 0xFF#8 ∈ undocumentedOpcodes ∧
    0x00#8 ∉ undocumentedOpcodes := by decide

theorem witness_FetchReadsOperandBytes :
    (fetchInstr (bench 0xFFFF#16 [0xA9#8, 0x10#8] [])).operand.mode.width = 1 ∧
      (fetchInstr (bench 0xFFFE#16 [0xAD#8, 0x34#8, 0x12#8] [])).operand.mode.width = 2 := by
  decide

theorem witness_CanonicalMemoryIsUnique :
    Memory.wf (memoryOf [(0xFFFF#16, 0x01#8), (0x0000#16, 0x02#8)]) ∧
      ∀ a, Memory.read (memoryOf [(0xFFFF#16, 0x01#8), (0x0000#16, 0x02#8)]) a =
        Memory.read (memoryOf [(0x0000#16, 0x02#8), (0xFFFF#16, 0x01#8)]) a :=
  ⟨by decide, fun _ => rfl⟩

theorem witness_WordReadIsLittleEndian : Memory.wf [] ∧
    Memory.wf (memoryOf [(0xFFFF#16, 0x11#8)]) := by decide

theorem witness_StackProtocol : ((bench 0x0200#16 [] []).setSp 0x00#8).mem.wf ∧
    ((bench 0x0200#16 [] []).setSp 0x00#8).sp = 0x00#8 := by decide

theorem witness_PullUndoesPush : ((bench 0x0200#16 [0x48#8] []).setSp 0x00#8).mem.wf := by
  decide

theorem witness_ResolverFrame :
    (Operand.abx 0x12FF#16).mode ≠ .rel ∧ Operand.acc.mode ∈ [Mode.imp, .acc, .rel] ∧
      (resolve (.abx 0xFFFF#16) ((bench 0x0200#16 [] []).setX 0x01#8)).crossed = true := by
  decide

theorem witness_IndirectModes :
    let s := bench 0x0200#16 [] [(0x00FF#16, 0x34#8), (0x0000#16, 0x12#8)]
    0x1234 = (s.mem.read (BitVec.ofNat 16 (0xFF#8).toNat)).toNat +
      256 * (s.mem.read (BitVec.ofNat 16 (((0xFF#8).toNat + 1) % 256))).toNat := by decide

theorem witness_LoadsReadTheOperand : (Instr.ldaIzy 0xFF#8).mnemonic = .lda ∧
    (Instr.ldxImm 0x00#8).mnemonic = .ldx ∧ (Instr.ldyAbx 0xFFFF#16).mnemonic = .ldy := by
  decide

theorem witness_StoresWriteTheByteAtEA : (Instr.staAbx 0xFFFF#16).mnemonic = .sta ∧
    (Instr.stxZpy 0xFF#8).mnemonic = .stx ∧ (Instr.styZp0 0x80#8).mnemonic = .sty ∧
    State.reset.mem.wf := by decide

/-- 0xFF + 0xFF + 1 = 511, the largest sum. -/
theorem witness_AdcAddsWithCarry :
    let s := ((bench 0x0200#16 [] []).setA 0xFF#8).setP 0x21#8
    (Instr.adcImm 0xFF#8).mnemonic = .adc ∧
      511 = s.a.toNat + (operandValue (Instr.adcImm 0xFF#8).operand s).toNat + (s.flag .c).toNat := by
  decide

/-- 0x00 - 0xFF with a borrow in, the smallest difference. -/
theorem witness_SbcSubtractsWithBorrow :
    let s := (bench 0x0200#16 [] []).setP 0x20#8
    (Instr.sbcImm 0xFF#8).mnemonic = .sbc ∧
      0xFF = (operandValue (Instr.sbcImm 0xFF#8).operand s).toNat ∧ 1 = 1 - (s.flag .c).toNat := by
  decide

theorem witness_LogicIntoA : (Instr.andImm 0x0F#8).mnemonic ∈ [Mnemonic.and, .ora, .eor] ∧
    (Instr.oraIzx 0xFF#8).mnemonic ∈ [Mnemonic.and, .ora, .eor] ∧
    (Instr.eorAby 0xFFFF#16).mnemonic ∈ [Mnemonic.and, .ora, .eor] := by decide

theorem witness_BitTestsTheMemoryByte :
    let s := bench 0x0200#16 [] [(0x0010#16, 0xC0#8)]
    (Instr.bitZp0 0x10#8).mnemonic = .bit ∧
      0xC0#8 = s.mem.read (effAddr (Instr.bitZp0 0x10#8).operand s) := by decide

/-- 0xFF + 1 wraps to 0x00; 0x00 - 1 wraps to 0xFF. -/
theorem witness_IncDecMemory :
    let s := bench 0x0200#16 [] [(0x0010#16, 0xFF#8)]
    (Instr.incZp0 0x10#8).mnemonic ∈ [Mnemonic.inc, .dec] ∧
      0x0010#16 = effAddr (Instr.incZp0 0x10#8).operand s ∧
      (0x00#8).toNat = ((s.mem.read 0x0010#16).toNat + 1) % 256 ∧
      (Instr.decZp0 0x11#8).mnemonic ∈ [Mnemonic.inc, .dec] ∧
      0x0011#16 = effAddr (Instr.decZp0 0x11#8).operand s ∧
      (0xFF#8).toNat = ((s.mem.read 0x0011#16).toNat + 255) % 256 ∧ s.mem.wf := by decide

theorem witness_ShiftsMoveOneBit :
    let s := (bench 0x0200#16 [] [(0x0010#16, 0x01#8)]).setA 0x80#8
    Instr.aslAcc.mnemonic ∈ [Mnemonic.asl, .lsr] ∧ 0x80#8 = operandValue Instr.aslAcc.operand s ∧
      (0x00#8).toNat = 2 * (0x80#8).toNat % 256 ∧
      (Instr.lsrZp0 0x10#8).mnemonic ∈ [Mnemonic.asl, .lsr] ∧
      0x01#8 = operandValue (Instr.lsrZp0 0x10#8).operand s ∧
      (0x00#8).toNat = (0x01#8).toNat / 2 ∧ Instr.aslAcc.operand = .acc ∧
      (Instr.lsrZp0 0x10#8).operand ≠ .acc ∧ s.mem.wf := by decide

theorem witness_RotatesGoThroughCarry :
    let s := ((bench 0x0200#16 [] [(0x0010#16, 0x01#8)]).setA 0xFF#8).setP 0x21#8
    Instr.rolAcc.mnemonic ∈ [Mnemonic.rol, .ror] ∧ 0xFF#8 = operandValue Instr.rolAcc.operand s ∧
      (0xFF#8).toNat = 2 * (0xFF#8).toNat % 256 + (s.flag .c).toNat ∧
      (Instr.rorZp0 0x10#8).mnemonic ∈ [Mnemonic.rol, .ror] ∧
      0x01#8 = operandValue (Instr.rorZp0 0x10#8).operand s ∧
      (0x80#8).toNat = (0x01#8).toNat / 2 + 128 * (s.flag .c).toNat ∧
      Instr.rolAcc.operand = .acc ∧ (Instr.rorZp0 0x10#8).operand ≠ .acc ∧ s.mem.wf := by
  decide

theorem witness_ComparesSetCZN :
    let s := ((bench 0x0200#16 [] []).setX 0xFF#8).setY 0x00#8
    (Instr.cmpImm 0x81#8).mnemonic ∈ [Mnemonic.cmp, .cpx, .cpy] ∧ 0x00#8 = s.a ∧
      0x81#8 = operandValue (Instr.cmpImm 0x81#8).operand s ∧
      (Instr.cpxImm 0xFF#8).mnemonic ∈ [Mnemonic.cmp, .cpx, .cpy] ∧ 0xFF#8 = s.x ∧
      0xFF#8 = operandValue (Instr.cpxImm 0xFF#8).operand s ∧
      (Instr.cpyImm 0xFF#8).mnemonic ∈ [Mnemonic.cmp, .cpx, .cpy] ∧ 0x00#8 = s.y ∧
      0xFF#8 = operandValue (Instr.cpyImm 0xFF#8).operand s := by decide

/-- BNE in a state with Z = 0 is taken, BEQ is not. -/
theorem witness_BranchesTestOneFlag :
    ((Instr.bne, Flag.z, false) : (Byte → Instr) × Flag × Bool) ∈
        [(Instr.bcc, Flag.c, false), (Instr.bcs, .c, true), (Instr.beq, .z, true),
          (Instr.bne, .z, false), (Instr.bmi, .n, true), (Instr.bpl, .n, false),
          (Instr.bvc, .v, false), (Instr.bvs, .v, true)] ∧
      (bench 0xFFFE#16 [0xD0#8, 0x80#8] []).flag .z = false ∧
      (bench 0xFFFE#16 [0xF0#8, 0x80#8] []).flag .z ≠ true :=
  ⟨by simp, by decide, by decide⟩

theorem witness_PhaPhpPush : ((bench 0x0200#16 [0x48#8] []).setSp 0x00#8).mem.wf := by
  decide

theorem witness_PlaPlpPull :
    let s := bench 0x0200#16 [0x28#8] [(0x0100#16, 0xFF#8)]
    s.sp = 0xFF#8 ∧ 0xFF#8 = s.mem.read (stackAddr (s.sp + 1)) ∧ Flag.c ≠ .b ∧ Flag.c ≠ .u := by
  decide

theorem witness_JsrPushesAndJumps :
    let s := (bench 0xFFFE#16 [0x20#8, 0x00#8, 0x03#8] []).setSp 0x00#8
    0x0000#16 = s.pc + 2 ∧ s.mem.wf := by decide

theorem witness_RtiRestoresPAndPc :
    let s := (bench 0x0200#16 [0x40#8] [(0x0100#16, 0xC3#8)]).setSp 0xFF#8
    0xC3#8 = s.mem.read (stackAddr (s.sp + 1)) := by decide

theorem witness_RtsUndoesJsr :
    ∃ t, exec (.jsr 0x0300#16) ((bench 0x0200#16 [] []).setSp 0x00#8) = .next t ∧
      ((bench 0x0200#16 [] []).setSp 0x00#8).mem.wf := ⟨_, rfl, by decide⟩

theorem witness_FlagInstructions :
    (Instr.clc, Flag.c, false) ∈
      [(Instr.clc, Flag.c, false), (Instr.cld, .d, false), (Instr.cli, .i, false),
        (Instr.clv, .v, false), (Instr.sec, .c, true), (Instr.sed, .d, true),
        (Instr.sei, .i, true)] := by decide

theorem witness_BrkTakesTheIrqVector :
    let s := (bench 0xFFFF#16 [0x00#8] []).setSp 0x01#8
    0x0001#16 = s.pc + 2 ∧ s.mem.wf := by decide

theorem witness_UndocumentedOpcodeRefuses :
    let s := bench 0x0400#16 [0x02#8] []
    0x02#8 ∈ undocumentedOpcodes ∧ s.AtBoundary ∧ s.mem.read s.pc = 0x02#8 := by decide

theorem witness_ResetProtocol : (bench 0x1234#16 [] []).AtBoundary := by decide

/-- One boundary state with I = 1, one with I = 0. -/
theorem witness_IrqEntry :
    ((bench 0x1234#16 [] []).setP 0x24#8).AtBoundary ∧
      ((bench 0x1234#16 [] []).setP 0x24#8).flag .i = true ∧
      ((bench 0x1234#16 [] []).setP 0x20#8).AtBoundary ∧
      ((bench 0x1234#16 [] []).setP 0x20#8).flag .i = false ∧ (bench 0x1234#16 [] []).mem.wf := by
  decide

theorem witness_NmiEntry :
    let s := ((bench 0x1234#16 [] []).setSp 0x00#8).setP 0x24#8
    s.AtBoundary ∧ s.mem.wf := by decide

/-- Both calls: an NMI with I = 1, an IRQ with I = 0. -/
theorem witness_RtiUndoesInterruptEntry :
    (∃ t, hostCall .nmi ((bench 0x1234#16 [] []).setP 0x24#8) = .next t) ∧
      (∃ t, hostCall .irq ((bench 0x1234#16 [] []).setP 0x20#8) = .next t) ∧
      ((bench 0x1234#16 [] []).setP 0x24#8).AtBoundary ∧
      ((bench 0x1234#16 [] []).setP 0x20#8).AtBoundary ∧
      ((bench 0x1234#16 [] []).setP 0x20#8).flag .i = false ∧ (bench 0x1234#16 [] []).mem.wf :=
  ⟨⟨_, rfl⟩, ⟨_, rfl⟩, by decide⟩

theorem witness_BusyTriggersRefused : State.reset.Running ∧ State.reset.Busy := by decide

theorem witness_BusMustBeAttached :
    State.construct.refused = none ∧ State.construct.busAttached = false ∧
      HostCall.clock ∈ [HostCall.clock, .reset, .irq, .nmi] ∧
      (State.construct.setRefused (some .noBus)).refused ≠ none := by decide

theorem witness_RefusalIsSticky :
    (State.construct.setRefused (some .noBus)).refused = some .noBus := by decide

theorem witness_BusyPulseOnlyCounts :
    (State.reset.setRemaining 1).Running ∧ (State.reset.setRemaining 1).Busy := by decide

/-- A 7-pulse instruction: its last pulse is k = 7. -/
theorem witness_InstructionOccupiesItsCost :
    (bench 0x0200#16 [0x00#8] []).AtBoundary ∧
      ∃ t, exec (fetchInstr (bench 0x0200#16 [0x00#8] [])) (bench 0x0200#16 [0x00#8] []) = .next t ∧
        1 ≤ 7 ∧ 7 ≤ t.remaining := ⟨by decide, _, rfl, by decide⟩

/-- A branch taken across a page: c2 = 2. -/
theorem witness_CostIsBaseAndPenalties :
    ∃ t, exec (.bne 0xFC#8) (bench 0x0200#16 [] []) = .next t ∧
      t.remaining = cost (.bne 0xFC#8) (bench 0x0200#16 [] []) 2 := ⟨_, rfl, by decide⟩

theorem witness_StepKeepsInvariant : State.reset.Inv ∧ ∃ t, step State.reset = .next t :=
  ⟨by decide, _, rfl⟩

theorem witness_HostCallsKeepInvariant :
    (∀ c ∈ [HostCall.attachBus [], .reset, .clock, .irq, .nmi], c.WellFormed) ∧
      (bench 0x0200#16 [] []).Bounded ∧
      ∃ t, hostCall .reset (bench 0x0200#16 [] []) = .next t := by
  refine ⟨?_, by decide, _, rfl⟩
  simpa [HostCall.WellFormed] using Memory.wf_nil

/-- A read-modify-write in memory, which writes no register. -/
theorem witness_RegisterWriters :
    (∃ t, exec (.aslZp0 0x10#8) (bench 0x0200#16 [] []) = .next t) ∧
      (Instr.aslZp0 0x10#8).mnemonic ∈ [Mnemonic.asl, .lsr, .rol, .ror] ∧
      (Instr.aslZp0 0x10#8).operand ≠ .acc := ⟨⟨_, rfl⟩, by decide⟩

theorem witness_FlagWriters :
    (∃ t, exec .plp (bench 0x0200#16 [] []) = .next t) ∧
      Instr.plp.mnemonic ∈ [Mnemonic.plp, .rti] ∧
      ∃ t, exec .nop (bench 0x0200#16 [] []) = .next t := ⟨⟨_, rfl⟩, by decide, _, rfl⟩

theorem witness_ScratchIsWrittenBeforeRead :
    ∃ t, exec .inx (bench 0x0200#16 [] []) = .next t ∧ Instr.inx.operand.mode ≠ .rel ∧
      Instr.inx.operand.mode ∈ [Mode.imp, .acc, .rel] := ⟨_, rfl, by decide⟩

theorem witness_TransactionsAccountForMemory :
    (∀ m, HostCall.clock ≠ .attachBus m) ∧
      ∃ t, hostCall .clock (bench 0x0200#16 [0xE6#8, 0x10#8] []) = .next t := ⟨nofun, _, rfl⟩

end Sys2Proof.Tests
end

section
/-!
The reset entry point and the state after construct (spec/10_state.md R44, R45,
spec/70_reset_and_hazards.md R270).
-/

namespace Sys2Proof.Machine

/-- A word read as arithmetic: the byte at `a` is the low one (R53). -/
theorem Memory.readWord_toNat (m : Memory) (a : Word) :
    (m.readWord a).toNat = (m.read a).toNat + 256 * (m.read (a + 1)).toNat := by
  rw [Memory.readWord, wordOf_toNat]
  omega

/-! ## The reset protocol, field by field: it writes A, X, Y, SP, P, PC and `remaining` only (R45) -/

section

variable (s : State)

@[simp] theorem resetProtocol_a : (resetProtocol s).a = 0x00#8 := rfl
@[simp] theorem resetProtocol_x : (resetProtocol s).x = 0x00#8 := rfl
@[simp] theorem resetProtocol_y : (resetProtocol s).y = 0x00#8 := rfl
@[simp] theorem resetProtocol_sp : (resetProtocol s).sp = 0xFD#8 := rfl
@[simp] theorem resetProtocol_pc : (resetProtocol s).pc = s.mem.readWord 0xFFFC#16 := rfl
@[simp] theorem resetProtocol_p : (resetProtocol s).p = 0x24#8 := rfl
@[simp] theorem resetProtocol_opcode : (resetProtocol s).opcode = s.opcode := rfl
@[simp] theorem resetProtocol_fetched : (resetProtocol s).fetched = s.fetched := rfl
@[simp] theorem resetProtocol_addrAbs : (resetProtocol s).addrAbs = s.addrAbs := rfl
@[simp] theorem resetProtocol_addrRel : (resetProtocol s).addrRel = s.addrRel := rfl
@[simp] theorem resetProtocol_crossed : (resetProtocol s).crossed = s.crossed := rfl
@[simp] theorem resetProtocol_remaining : (resetProtocol s).remaining = 7 := rfl
@[simp] theorem resetProtocol_totalCycles : (resetProtocol s).totalCycles = s.totalCycles := rfl
@[simp] theorem resetProtocol_refused : (resetProtocol s).refused = s.refused := rfl
@[simp] theorem resetProtocol_busAttached : (resetProtocol s).busAttached = s.busAttached := rfl
@[simp] theorem resetProtocol_mem : (resetProtocol s).mem = s.mem := rfl

end

/-! ## Host calls at an instruction boundary -/

/-- With no refusal recorded a call is looked at (R285). -/
theorem hostCall_of_unrefused {s : State} (c : HostCall) (h : s.refused = none) :
    hostCall c s = callUnrefused c s := by
  rw [hostCall, h]

/-- With a bus attached a call runs (R272). -/
theorem whenAttached_of_attached {s : State}
    (run : State → Host.Outcome State Fault Refusal) (h : s.busAttached = true) :
    whenAttached run s = run s := if_pos h

/-- At Idle a trigger is permitted (R284). -/
theorem whenIdle_of_idle {s : State} (op : Trigger) (run : State → State) (h : s.Idle) :
    whenIdle op run s = .next (run s) := if_pos h

/-- At a boundary reset runs its protocol (R270). -/
theorem hostCall_reset_of_atBoundary {s : State} (h : s.AtBoundary) :
    hostCall .reset s = .next (resetProtocol s) := by
  obtain ⟨⟨hrefused, hbus⟩, hidle⟩ := h
  rw [hostCall_of_unrefused _ hrefused, callUnrefused, whenAttached_of_attached _ hbus,
    whenIdle_of_idle _ _ hidle]

/-- At a boundary reset reads the two bytes of its vector and makes no other transaction (R270). -/
theorem callAccesses_reset_of_atBoundary {s : State} (h : s.AtBoundary) :
    callAccesses .reset s = readWordAccesses s.mem Config.resetVector := by
  obtain ⟨⟨hrefused, hbus⟩, hidle⟩ := h
  simp [callAccesses, hrefused, hbus, hidle]

end Sys2Proof.Machine

namespace Sys2Proof.Proofs

open Sys2Proof.Machine

/-- Settles O43: at a boundary reset answers `resetProtocol s`, whose fields are the table of R45. -/
theorem resetProtocol : Obligations.ResetProtocol := by
  unfold Obligations.ResetProtocol
  intro s hs
  have hreads := callAccesses_reset_of_atBoundary hs
  have hpc := Memory.readWord_toNat s.mem 0xFFFC#16
  refine ⟨Machine.resetProtocol s, hostCall_reset_of_atBoundary hs, ?_⟩
  obtain ⟨⟨hrefused, hbus⟩, -⟩ := hs
  simpa [hrefused, hbus, hpc, readWordAccesses, readAccess, Config.resetVector] using hreads

/-- Settles O44: each field of the one state `State.construct`, read off (R44). -/
theorem constructedState : Obligations.ConstructedState := by
  unfold Obligations.ConstructedState
  decide

end Sys2Proof.Proofs
end

section
/-!
The stack protocol (spec/20_memory.md R59 to R62).
-/

namespace Sys2Proof.Machine

/-- The stack address as the rule writes it, `0x0100 + SP` (R59). -/
theorem stackAddr_eq_ofNat (b : Byte) : stackAddr b = BitVec.ofNat 16 (0x0100 + b.toNat) := by
  have hb := b.isLt
  apply BitVec.eq_of_toNat_eq
  rw [stackAddr_toNat, BitVec.toNat_ofNat, Nat.mod_eq_of_lt (by omega)]

section

variable (s : State)

@[simp] theorem pullSp_a : (pullSp s).a = s.a := rfl
@[simp] theorem pullSp_x : (pullSp s).x = s.x := rfl
@[simp] theorem pullSp_y : (pullSp s).y = s.y := rfl
@[simp] theorem pullSp_sp : (pullSp s).sp = s.sp + 1 := rfl
@[simp] theorem pullSp_pc : (pullSp s).pc = s.pc := rfl
@[simp] theorem pullSp_p : (pullSp s).p = s.p := rfl
@[simp] theorem pullSp_opcode : (pullSp s).opcode = s.opcode := rfl
@[simp] theorem pullSp_fetched : (pullSp s).fetched = s.fetched := rfl
@[simp] theorem pullSp_addrAbs : (pullSp s).addrAbs = s.addrAbs := rfl
@[simp] theorem pullSp_addrRel : (pullSp s).addrRel = s.addrRel := rfl
@[simp] theorem pullSp_crossed : (pullSp s).crossed = s.crossed := rfl
@[simp] theorem pullSp_remaining : (pullSp s).remaining = s.remaining := rfl
@[simp] theorem pullSp_totalCycles : (pullSp s).totalCycles = s.totalCycles := rfl
@[simp] theorem pullSp_refused : (pullSp s).refused = s.refused := rfl
@[simp] theorem pullSp_busAttached : (pullSp s).busAttached = s.busAttached := rfl
@[simp] theorem pullSp_mem : (pullSp s).mem = s.mem := rfl

end

/-- `Push(v)` moves SP down by one, modulo 256 (R60, R62). -/
theorem push_sp_toNat (v : Byte) (s : State) :
    (push v s).sp.toNat = (s.sp.toNat + 255) % 256 := by
  rw [push_sp, Nat.add_comm]
  exact BitVec.toNat_sub s.sp 1

/-- `Pull()` moves SP up by one, modulo 256 (R61, R62). -/
theorem pullSp_sp_toNat (s : State) : (pullSp s).sp.toNat = (s.sp.toNat + 1) % 256 := by
  rw [pullSp_sp]
  exact BitVec.toNat_add s.sp 1

/-- `Pull()` returns the byte at the stack address of the SP it leaves (R61). -/
theorem pullByte_eq_read_pullSp (s : State) :
    pullByte s = s.mem.read (stackAddr (pullSp s).sp) := rfl

/-- Two states that differ in no byte register but SP: what `KeepsRegs [.sp]` asks for. -/
theorem keepsRegs_sp {s t : State} (ha : t.a = s.a) (hx : t.x = s.x) (hy : t.y = s.y) :
    KeepsRegs [.sp] s t
  | .a, _ => ha
  | .x, _ => hx
  | .y, _ => hy
  | .sp, h => absurd (List.mem_singleton_self _) h

/-- States with one status byte agree in every flag. -/
theorem keepsFlags_of_p_eq {s t : State} (h : t.p = s.p) (written : List Flag) :
    KeepsFlags written s t := by
  intro f _
  rw [State.flag, h, State.flag]

/-- `Push(v)` changes SP and the byte at the stack address only (R60). -/
theorem push_frame (v : Byte) (s : State) : Frame [.sp] [] [stackAddr s.sp] s (push v s) where
  regs := keepsRegs_sp (push_a v s) (push_x v s) (push_y v s)
  flags := keepsFlags_of_p_eq (push_p v s) []
  memory a ha := by
    rw [push_mem, Memory.read_write_other s.mem v (List.ne_of_not_mem_cons ha)]
  host := ⟨push_totalCycles v s, push_refused v s, push_busAttached v s⟩

/-- `Pull()` changes SP only (R61). -/
theorem pullSp_frame (s : State) : Frame [.sp] [] [] s (pullSp s) where
  regs := keepsRegs_sp (pullSp_a s) (pullSp_x s) (pullSp_y s)
  flags := keepsFlags_of_p_eq (pullSp_p s) []
  memory a _ := by rw [pullSp_mem]
  host := ⟨pullSp_totalCycles s, pullSp_refused s, pullSp_busAttached s⟩

/-- The byte pushed stands at the stack address of the SP before the push (R60). -/
theorem read_push_stackAddr (v : Byte) {s : State} (hm : s.mem.wf) :
    (push v s).mem.read (stackAddr s.sp) = v := by
  rw [push_mem, Memory.read_write_same hm]

end Sys2Proof.Machine

namespace Sys2Proof.Proofs

open Sys2Proof.Machine

/-- Settles O11: Push's clauses and Pull's are the lemmas above, once each stack address is read as
the number `0x0100 + SP`, with the old SP for Push and the new one for Pull. -/
theorem stackProtocol : Obligations.StackProtocol := by
  unfold Obligations.StackProtocol
  intro v s
  have hpush : stackAddr s.sp = BitVec.ofNat 16 (0x0100 + s.sp.toNat) := stackAddr_eq_ofNat s.sp
  have hpull : stackAddr (pullSp s).sp = BitVec.ofNat 16 (0x0100 + (s.sp.toNat + 1) % 256) := by
    rw [stackAddr_eq_ofNat, pullSp_sp_toNat]
  rw [← hpush, ← hpull]
  constructor
  · exact ⟨push_sp_toNat v s, read_push_stackAddr v, push_frame v s, push_pc v s⟩
  · exact ⟨pullSp_sp_toNat s, pullByte_eq_read_pullSp s, pullSp_frame s, pullSp_pc s⟩

end Sys2Proof.Proofs
end

section
/-!
The page penalty of the opcode table (spec/30_encoding.md R83, R89) and what a page crossing costs
(spec/70_reset_and_hazards.md R282).
-/

namespace Sys2Proof

/-- The derivation of `page_penalty` (R89): an indexed mode whose page a carry can cross, under one
of the nine mnemonics that read through it. -/
def Descriptor.PenaltyDerived (d : Descriptor) : Prop :=
  d.pagePenalty = true ↔
    d.mode ∈ [Mode.abx, .aby, .izy] ∧
      d.mnemonic ∈ [Mnemonic.adc, .and, .cmp, .eor, .lda, .ldx, .ldy, .ora, .sbc]

/-- The table has an entry for every byte (R83). -/
theorem opcodeTable_length : opcodeTable.length = 256 := by
  rw [opcodeTable, List.length_flatten]
  decide

/-- The descriptor of a byte is an entry of the table: no byte falls outside it (R83, R91). -/
theorem descriptor_mem_opcodeTable (op : Byte) : descriptor op ∈ opcodeTable := by
  have hop : op.toNat < opcodeTable.length := opcodeTable_length ▸ op.isLt
  rw [descriptor, List.getD_eq_getElem _ _ hop]
  exact List.getElem_mem hop

/-- The flag written in each row of the matrix is the derived one (R85, R86, R89). -/
theorem penaltyDerived_of_mem_row : ∀ row ∈ opcodeRows, ∀ d ∈ row, d.PenaltyDerived := by
  unfold Descriptor.PenaltyDerived
  decide

/-- Every byte's descriptor carries the derived flag (R89). -/
theorem descriptor_penaltyDerived (op : Byte) : (descriptor op).PenaltyDerived := by
  obtain ⟨row, hrow, hd⟩ := List.mem_flatten.mp (descriptor_mem_opcodeTable op)
  exact penaltyDerived_of_mem_row row hrow _ hd

namespace Machine

/-- With c2 = 0 the cost exceeds the base by one exactly when c1 is charged (R282). -/
theorem cost_zero_eq_succ_iff (i : Instr) (s : State) :
    cost i s 0 = (descriptor i.opcode).baseCycles + 1 ↔
      pageCrossed i.operand s = true ∧ (descriptor i.opcode).pagePenalty = true := by
  rw [cost, ← Bool.and_eq_true]
  cases pageCrossed i.operand s && (descriptor i.opcode).pagePenalty <;> simp

end Machine

end Sys2Proof

namespace Sys2Proof.Proofs

/-- Settles O8: a byte's descriptor stands in a row of the matrix, whose flags are the derived ones;
the second clause is the one conditional cycle of the cost. -/
theorem pagePenaltyOnlyForReads : Obligations.PagePenaltyOnlyForReads := by
  unfold Obligations.PagePenaltyOnlyForReads
  intro op i s
  constructor
  · exact descriptor_penaltyDerived op
  · exact Machine.cost_zero_eq_succ_iff i s

end Sys2Proof.Proofs
end

section
/-!
Loads, stores and transfers (spec/40_load_store.md R120 to R129): what the handlers do to one byte
register or one byte of memory, and that `Execute` (spec/30_encoding.md R90) adds nothing to it but
PC and the cost.
-/

namespace Sys2Proof

/-- A documented row's opcode has the row's own mnemonic in the table (R84, R85). -/
theorem descriptor_mnemonic {i : Instr} (h : i.mnemonic ≠ .undocumented) :
    (descriptor i.opcode).mnemonic = i.mnemonic := by
  cases i
  case undocumented => exact absurd rfl h
  all_goals rfl

/-- Only a shift or a rotate has an Accumulator form (R84). -/
theorem mnemonic_of_operand_acc {i : Instr} (h : i.operand = .acc) :
    i.mnemonic ∈ [Mnemonic.asl, .lsr, .rol, .ror] := by
  revert h
  cases i <;> simp [Instr.operand, Instr.mnemonic]

/-- Only an instruction that reads its operand without writing it has an Immediate form (R84). -/
theorem mnemonic_of_mode_imm {i : Instr} (h : i.operand.mode = .imm) :
    i.mnemonic ∈ [Mnemonic.lda, .ldx, .ldy, .adc, .sbc, .and, .ora, .eor, .cmp, .cpx, .cpy] := by
  revert h
  cases i <;> simp [Instr.operand, Instr.mnemonic, Operand.mode]

/-- A documented row outside R89's list never charges a page crossing. -/
theorem pagePenalty_eq_false {i : Instr} (hdoc : i.mnemonic ≠ .undocumented)
    (h : i.mnemonic ∉ [Mnemonic.adc, .and, .cmp, .eor, .lda, .ldx, .ldy, .ora, .sbc]) :
    (descriptor i.opcode).pagePenalty = false := by
  rw [← descriptor_mnemonic hdoc] at h
  exact Bool.eq_false_iff.mpr fun hp => h ((descriptor_penaltyDerived i.opcode).mp hp).2

namespace Machine

/-! ## Frames through `Execute` -/

section

variable {regs : List Reg} {flags : List Flag} {bytes : List Word}

/-- What two operations both leave unchanged their sequence leaves unchanged. -/
theorem Frame.trans {s t u : State} (h₁ : Frame regs flags bytes s t)
    (h₂ : Frame regs flags bytes t u) : Frame regs flags bytes s u where
  regs g hg := (h₂.regs g hg).trans (h₁.regs g hg)
  flags f hf := (h₂.flags f hf).trans (h₁.flags f hf)
  memory a ha := (h₂.memory a ha).trans (h₁.memory a ha)
  host := by
    obtain ⟨hcycles₁, hrefused₁, hbus₁⟩ := h₁.host
    obtain ⟨hcycles₂, hrefused₂, hbus₂⟩ := h₂.host
    exact ⟨hcycles₂.trans hcycles₁, hrefused₂.trans hrefused₁, hbus₂.trans hbus₁⟩

/-- The opcode fetch and the resolver write PC and scratch only (R90, R95). -/
theorem resolved_frame (op : Byte) (o : Operand) (s : State) :
    Frame regs flags bytes s (resolved op o s) where
  regs g _ := by cases g <;> rfl
  flags f _ := flag_resolved s op o f
  memory a _ := by rw [resolved_mem]
  host := ⟨resolved_totalCycles s op o, resolved_refused s op o, resolved_busAttached s op o⟩

/-- `Operand()` writes the scratch `fetched` only (R109). -/
theorem noteFetched_frame (o : Operand) (s : State) :
    Frame regs flags bytes s (noteFetched o s) where
  regs g _ := by cases g <;> simp [State.reg]
  flags f _ := flag_noteFetched o s f
  memory a _ := by rw [noteFetched_mem]
  host := ⟨noteFetched_totalCycles o s, noteFetched_refused o s, noteFetched_busAttached o s⟩

/-- Writing the cost counter is in every frame (R38). -/
theorem setRemaining_frame (s : State) (n : Nat) :
    Frame regs flags bytes s (s.setRemaining n) where
  regs g _ := by cases g <;> rfl
  flags _ _ := rfl
  memory _ _ := rfl
  host := ⟨rfl, rfl, rfl⟩

/-- `Execute` leaves unchanged what its handler does, PC, scratch and the cost counter aside
(R90). -/
theorem execute_frame {op : Byte} {o : Operand} {s t : State} (n : Nat)
    (h : Frame regs flags bytes (resolved op o s) t) :
    Frame regs flags bytes s (t.setRemaining n) :=
  ((resolved_frame op o s).trans h).trans (setRemaining_frame t n)

end

/-! ## PC, cost and accesses of `Execute` -/

section

variable (i : Instr) (s : State)

/-- After the resolver PC is at the next instruction (R25, R81, R95). -/
theorem resolved_pc_eq_nextPc : (resolved i.opcode i.operand s).pc = nextPc i s := by
  rw [resolved_pc, nextPc, Instr.length, BitVec.ofNat_add, BitVec.add_assoc]
  rfl

/-- `base_cycles + c1` is the cost with c2 = 0 (R282). -/
theorem baseCycles_add_pageCycles :
    (descriptor i.opcode).baseCycles + pageCycles i.opcode (resolved i.opcode i.operand s) =
      cost i s 0 := by
  rw [pageCycles_resolved, cost, Nat.add_zero]

end

/-- Without the page penalty the base cost is the whole cost (R89, R282). -/
theorem cost_of_pagePenalty_false {i : Instr} (s : State)
    (h : (descriptor i.opcode).pagePenalty = false) :
    cost i s 0 = (descriptor i.opcode).baseCycles := by
  simp [cost, h]

/-- `Execute` of an instruction's handler: the state it answers, with its cost (R90, R282). -/
theorem exec_of_execute {i : Instr} {s : State} {handler : State → State}
    (hexec : exec i s = execute i.opcode i.operand handler s) :
    exec i s =
      .next ((handler (resolved i.opcode i.operand s)).setRemaining (cost i s 0)) := by
  rw [hexec, execute_next, baseCycles_add_pageCycles]

/-- But in Accumulator mode `Operand()` is one read at EA (R109). -/
theorem operandReadAccesses_of_ne_acc {o : Operand} (h : o ≠ .acc) (r : State) :
    operandReadAccesses o r = [.read r.addrAbs (r.mem.read r.addrAbs)] := by
  cases o
  case acc => exact absurd rfl h
  all_goals rfl

/-- An Implied instruction whose handler makes no transaction reads its opcode and nothing else
(R90, R96). -/
theorem instrAccesses_implied {i : Instr} (s : State) (hop : i.operand = .imp)
    (hacc : ∀ r, handlerAccesses i.mnemonic .imp r = []) :
    instrAccesses i s = [.read s.pc (s.mem.read s.pc)] := by
  rw [instrAccesses, hop, hacc]
  rfl

/-! ## One byte register: written alone, and with Z and N -/

/-- Write one byte register. -/
def State.setReg (s : State) : Reg → Byte → State
  | .a, v => s.setA v
  | .x, v => s.setX v
  | .y, v => s.setY v
  | .sp, v => s.setSp v

@[simp] theorem State.reg_setReg (s : State) (g q : Reg) (v : Byte) :
    (s.setReg g v).reg q = if q = g then v else s.reg q := by
  cases g <;> cases q <;> rfl

@[simp] theorem State.setReg_pc (s : State) (g : Reg) (v : Byte) : (s.setReg g v).pc = s.pc := by
  cases g <;> rfl

@[simp] theorem reg_resolved (op : Byte) (o : Operand) (s : State) (g : Reg) :
    (resolved op o s).reg g = s.reg g := by
  cases g <;> rfl

theorem setReg_frame {flags : List Flag} {bytes : List Word} (g : Reg) (v : Byte) (s : State) :
    Frame [g] flags bytes s (s.setReg g v) where
  regs q hq := by rw [State.reg_setReg, if_neg (List.ne_of_not_mem_cons hq)]
  flags _ _ := by cases g <;> rfl
  memory _ _ := by cases g <;> rfl
  host := by cases g <;> exact ⟨rfl, rfl, rfl⟩

/-- `SetZN` writes Z and N only (R10). -/
theorem setZN_frame {regs : List Reg} {bytes : List Word} (v : Byte) (s : State) :
    Frame regs [.z, .n] bytes s (s.setZN v) where
  regs q _ := by cases q <;> rfl
  flags f hf := by
    obtain ⟨hz, hn⟩ : f ≠ .z ∧ f ≠ .n := by simpa using hf
    rw [State.flag_setZN, if_neg hn, if_neg hz]
  memory _ _ := rfl
  host := ⟨rfl, rfl, rfl⟩

/-- `v` goes into the register `g`, and Z and N are set from it: the end of every load and of every
transfer with flags (R120 to R122, R126 to R129). -/
def loadReg (g : Reg) (v : Byte) (s : State) : State := (s.setReg g v).setZN v

/-- What a claim says of a load of `v` into `g` between two states, the cost apart. -/
structure LoadsReg (g : Reg) (v : Byte) (s t : State) : Prop where
  value : t.reg g = v
  zero : t.flag .z = true ↔ v = 0x00#8
  negative : t.flag .n = true ↔ 128 ≤ v.toNat
  frame : Frame [g] [.z, .n] [] s t

theorem loadReg_loadsReg (g : Reg) (v : Byte) (s : State) : LoadsReg g v s (loadReg g v s) where
  value := by
    have hreg : (loadReg g v s).reg g = (s.setReg g v).reg g := by cases g <;> rfl
    rw [hreg, State.reg_setReg, if_pos rfl]
  zero := by simp [loadReg]
  negative := by simp [loadReg, msb_eq_true_iff]
  frame := (setReg_frame g v s).trans (setZN_frame v (s.setReg g v))

@[simp] theorem loadReg_pc (g : Reg) (v : Byte) (s : State) : (loadReg g v s).pc = s.pc := by
  simp [loadReg]

/-- An operation inside the load's frame may come before the load. -/
theorem LoadsReg.of_frame {g : Reg} {v : Byte} {s r t : State}
    (hpre : Frame [g] [.z, .n] [] s r) (h : LoadsReg g v r t) : LoadsReg g v s t :=
  { h with frame := hpre.trans h.frame }

/-- A handler that loads `v` into `g` and leaves PC alone gives its instruction the claim's effect,
at the next PC and for the cost with c2 = 0. -/
theorem exec_of_loadsReg {i : Instr} {s : State} {handler : State → State} {g : Reg} {v : Byte}
    (hexec : exec i s = execute i.opcode i.operand handler s)
    (hpc : ∀ r, (handler r).pc = r.pc)
    (hload : LoadsReg g v (resolved i.opcode i.operand s)
      (handler (resolved i.opcode i.operand s))) :
    ∃ t, exec i s = .next t ∧ LoadsReg g v s t ∧ t.pc = nextPc i s ∧ t.remaining = cost i s 0 := by
  obtain ⟨hvalue, hzero, hnegative, hframe⟩ := hload
  refine ⟨_, exec_of_execute hexec, ⟨?_, hzero, hnegative, execute_frame _ hframe⟩, ?_, rfl⟩
  · rw [← hvalue]
    cases g <;> rfl
  · rw [State.setRemaining_pc, hpc, resolved_pc_eq_nextPc]

/-! ## Loads (R120 to R122) -/

/-- LDA, LDX and LDY for the register `g`: `m <- Operand(); g <- m; SetZN(m)`. -/
def loadOperand (g : Reg) (o : Operand) (r : State) : State :=
  loadReg g (operandByte o r) (noteFetched o r)

theorem handleLda_eq_loadOperand : handleLda = loadOperand .a := rfl
theorem handleLdx_eq_loadOperand : handleLdx = loadOperand .x := rfl
theorem handleLdy_eq_loadOperand : handleLdy = loadOperand .y := rfl

theorem loadOperand_loadsReg (g : Reg) (o : Operand) (r : State) :
    LoadsReg g (operandByte o r) r (loadOperand g o r) :=
  (loadReg_loadsReg g (operandByte o r) (noteFetched o r)).of_frame (noteFetched_frame o r)

/-- A load's handler makes one transaction, the read at EA (R109): it has no Accumulator form. -/
theorem handlerAccesses_load {i : Instr} (h : i.mnemonic ∈ [Mnemonic.lda, .ldx, .ldy]) (r : State) :
    handlerAccesses i.mnemonic i.operand r = [.read r.addrAbs (r.mem.read r.addrAbs)] := by
  have hdisj : ∀ m ∈ [Mnemonic.lda, .ldx, .ldy], m ∉ [Mnemonic.asl, .lsr, .rol, .ror] := by decide
  have hacc : i.operand ≠ .acc := mt mnemonic_of_operand_acc (hdisj _ h)
  have hread : ∀ m ∈ [Mnemonic.lda, .ldx, .ldy],
      handlerAccesses m i.operand r = operandReadAccesses i.operand r := by
    simp [handlerAccesses]
  rw [hread _ h, operandReadAccesses_of_ne_acc hacc]

/-- The claim about a load of the register `g`. -/
theorem exec_loadOperand {i : Instr} {s : State} {g : Reg}
    (hm : i.mnemonic ∈ [Mnemonic.lda, .ldx, .ldy])
    (hexec : exec i s = execute i.opcode i.operand (loadOperand g i.operand) s) :
    ∃ t, exec i s = .next t ∧ t.reg g = operandValue i.operand s ∧
      (t.flag .z = true ↔ operandValue i.operand s = 0x00#8) ∧
      (t.flag .n = true ↔ 128 ≤ (operandValue i.operand s).toNat) ∧
      handlerAccesses i.mnemonic i.operand (resolved i.opcode i.operand s) =
        [.read (resolved i.opcode i.operand s).addrAbs
          (s.mem.read (resolved i.opcode i.operand s).addrAbs)] ∧
      t.pc = nextPc i s ∧ t.remaining = cost i s 0 ∧ Frame [g] [.z, .n] [] s t := by
  have hload := loadOperand_loadsReg g i.operand (resolved i.opcode i.operand s)
  rw [operandByte_resolved] at hload
  obtain ⟨t, ht, ⟨hvalue, hzero, hnegative, hframe⟩, hpc, hcost⟩ :=
    exec_of_loadsReg hexec (by simp [loadOperand]) hload
  have hacc := handlerAccesses_load hm (resolved i.opcode i.operand s)
  rw [resolved_mem] at hacc
  exact ⟨t, ht, hvalue, hzero, hnegative, hacc, hpc, hcost, hframe⟩

/-! ## Stores (R123 to R125) -/

/-- STA, STX and STY for the register `g`: `MemWrite(EA, 1, g)`. -/
def storeReg (g : Reg) (r : State) : State := r.setMem (r.mem.write r.addrAbs (r.reg g))

theorem handleSta_eq_storeReg : handleSta = storeReg .a := rfl
theorem handleStx_eq_storeReg : handleStx = storeReg .x := rfl
theorem handleSty_eq_storeReg : handleSty = storeReg .y := rfl

/-- A store changes the byte at EA only. -/
theorem storeReg_frame (g : Reg) (r : State) : Frame [] [] [r.addrAbs] r (storeReg g r) where
  regs q _ := by cases q <;> rfl
  flags _ _ := rfl
  memory _ ha := Memory.read_write_other r.mem (r.reg g) (List.ne_of_not_mem_cons ha)
  host := ⟨rfl, rfl, rfl⟩

theorem read_storeReg (g : Reg) {r : State} (hm : r.mem.wf) :
    (storeReg g r).mem.read r.addrAbs = r.reg g :=
  Memory.read_write_same hm r.addrAbs (r.reg g)

/-- The three stores have no Immediate form, so their EA is the one seen from the boundary state. -/
theorem resolved_addrAbs_store {i : Instr} (h : i.mnemonic ∈ [Mnemonic.sta, .stx, .sty])
    (s : State) : (resolved i.opcode i.operand s).addrAbs = effAddr i.operand s := by
  have hdisj : ∀ m ∈ [Mnemonic.sta, .stx, .sty], m ∉
      [Mnemonic.lda, .ldx, .ldy, .adc, .sbc, .and, .ora, .eor, .cmp, .cpx, .cpy] := by decide
  rw [resolved_addrAbs, effAddr_fetchOpcode _ _ _ (mt mnemonic_of_mode_imm (hdisj _ h))]

/-- A store takes its base cost whether or not the page is crossed (R89). -/
theorem cost_store {i : Instr} (h : i.mnemonic ∈ [Mnemonic.sta, .stx, .sty]) (s : State) :
    cost i s 0 = (descriptor i.opcode).baseCycles := by
  have hdoc : ∀ m ∈ [Mnemonic.sta, .stx, .sty], m ≠ .undocumented := by decide
  have hdisj : ∀ m ∈ [Mnemonic.sta, .stx, .sty],
      m ∉ [Mnemonic.adc, .and, .cmp, .eor, .lda, .ldx, .ldy, .ora, .sbc] := by decide
  exact cost_of_pagePenalty_false s (pagePenalty_eq_false (hdoc _ h) (hdisj _ h))

/-- The claim about a store of the register `g`. -/
theorem exec_storeReg {i : Instr} {s : State} {g : Reg}
    (hm : i.mnemonic ∈ [Mnemonic.sta, .stx, .sty])
    (hexec : exec i s = execute i.opcode i.operand (storeReg g) s)
    (hacc : ∀ r, handlerAccesses i.mnemonic i.operand r = [.write r.addrAbs (r.reg g)]) :
    ∃ t, exec i s = .next t ∧ (s.mem.wf → t.mem.read (effAddr i.operand s) = s.reg g) ∧
      handlerAccesses i.mnemonic i.operand (resolved i.opcode i.operand s) =
        [.write (effAddr i.operand s) (s.reg g)] ∧
      t.pc = nextPc i s ∧ t.remaining = (descriptor i.opcode).baseCycles ∧
      Frame [] [] [effAddr i.operand s] s t := by
  rw [← resolved_addrAbs_store hm s, ← cost_store hm s, ← reg_resolved i.opcode i.operand s g]
  exact ⟨_, exec_of_execute hexec, fun hwf => read_storeReg g (by rwa [resolved_mem]), hacc _,
    resolved_pc_eq_nextPc i s, rfl, execute_frame _ (storeReg_frame g _)⟩

/-! ## Transfers (R126 to R129) -/

/-- TAX, TAY, TXA and TYA from the register `q` to the register `g`: `g <- q; SetZN(g)`. -/
def transferReg (q g : Reg) (r : State) : State := loadReg g (r.reg q) r

theorem handleTax_eq_transferReg : handleTax = transferReg .a .x := rfl
theorem handleTay_eq_transferReg : handleTay = transferReg .a .y := rfl
theorem handleTxa_eq_transferReg : handleTxa = transferReg .x .a := rfl
theorem handleTya_eq_transferReg : handleTya = transferReg .y .a := rfl

/-- The claim about a transfer from `q` to `g`, for an Implied row of two cycles. -/
theorem exec_transferReg {i : Instr} {s : State} {q g : Reg} (hop : i.operand = .imp)
    (hbase : (descriptor i.opcode).baseCycles = 2)
    (hacc : ∀ r, handlerAccesses i.mnemonic .imp r = [])
    (hexec : exec i s = execute i.opcode i.operand (transferReg q g) s) :
    ∃ t, exec i s = .next t ∧ t.reg g = s.reg q ∧ (t.flag .z = true ↔ s.reg q = 0x00#8) ∧
      (t.flag .n = true ↔ 128 ≤ (s.reg q).toNat) ∧ t.pc = s.pc + 1 ∧ t.remaining = 2 ∧
      Frame [g] [.z, .n] [] s t ∧ instrAccesses i s = [.read s.pc (s.mem.read s.pc)] := by
  have hload := loadReg_loadsReg g (s.reg q) (resolved i.opcode i.operand s)
  rw [← reg_resolved i.opcode i.operand s q] at hload
  obtain ⟨t, ht, ⟨hvalue, hzero, hnegative, hframe⟩, hpc, hcost⟩ :=
    exec_of_loadsReg hexec (by simp [transferReg]) hload
  rw [reg_resolved] at hvalue hzero hnegative
  have hnext : nextPc i s = s.pc + 1 := by
    simp [nextPc, Instr.length, hop, Operand.mode, Mode.width]
  have htwo : cost i s 0 = 2 := by simp [cost, hop, pageCrossed, hbase]
  exact ⟨t, ht, hvalue, hzero, hnegative, hpc.trans hnext, hcost.trans htwo, hframe,
    instrAccesses_implied s hop hacc⟩

end Machine

end Sys2Proof

namespace Sys2Proof.Proofs

open Sys2Proof.Machine

/-- Settles O18: each load is `loadOperand` of its register under `Execute`; the rows are read off
the table. -/
theorem loadsReadTheOperand : Obligations.LoadsReadTheOperand := by
  unfold Obligations.LoadsReadTheOperand
  refine ⟨⟨by decide, fun i s hi => ?_⟩, ⟨by decide, fun i s hi => ?_⟩,
    ⟨by decide, fun i s hi => ?_⟩⟩
  · exact exec_loadOperand (g := .a) (by simp [hi]) (handleLda_eq_loadOperand ▸ exec_lda s hi)
  · exact exec_loadOperand (g := .x) (by simp [hi]) (handleLdx_eq_loadOperand ▸ exec_ldx s hi)
  · exact exec_loadOperand (g := .y) (by simp [hi]) (handleLdy_eq_loadOperand ▸ exec_ldy s hi)

/-- Settles O19: each store is `storeReg` of its register under `Execute`, at an EA and a cost that
its lack of an Immediate form and of a page penalty fix. -/
theorem storesWriteTheByteAtEA : Obligations.StoresWriteTheByteAtEA := by
  unfold Obligations.StoresWriteTheByteAtEA
  refine ⟨⟨by decide, fun i s hi => ?_⟩, ⟨by decide, fun i s hi => ?_⟩,
    ⟨by decide, fun i s hi => ?_⟩⟩
  · exact exec_storeReg (g := .a) (by simp [hi]) (handleSta_eq_storeReg ▸ exec_sta s hi)
      fun r => by rw [hi]; rfl
  · exact exec_storeReg (g := .x) (by simp [hi]) (handleStx_eq_storeReg ▸ exec_stx s hi)
      fun r => by rw [hi]; rfl
  · exact exec_storeReg (g := .y) (by simp [hi]) (handleSty_eq_storeReg ▸ exec_sty s hi)
      fun r => by rw [hi]; rfl

/-- Settles O20: each transfer is `transferReg` from its source to its target under `Execute`. The
kernel alone reads the rows: they stand so late in the table that the elaborator's evaluation
recurses too deep. -/
theorem transfersCopyARegister : Obligations.TransfersCopyARegister := by
  unfold Obligations.TransfersCopyARegister
  refine ⟨by decide +kernel, by decide +kernel, by decide +kernel, by decide +kernel,
    fun s => ⟨?_, ?_, ?_, ?_⟩⟩
  · exact exec_transferReg (i := .tax) (q := .a) (g := .x) rfl rfl (fun _ => rfl)
      (handleTax_eq_transferReg ▸ exec_tax s rfl)
  · exact exec_transferReg (i := .tay) (q := .a) (g := .y) rfl rfl (fun _ => rfl)
      (handleTay_eq_transferReg ▸ exec_tay s rfl)
  · exact exec_transferReg (i := .txa) (q := .x) (g := .a) rfl rfl (fun _ => rfl)
      (handleTxa_eq_transferReg ▸ exec_txa s rfl)
  · exact exec_transferReg (i := .tya) (q := .y) (g := .a) rfl rfl (fun _ => rfl)
      (handleTya_eq_transferReg ▸ exec_tya s rfl)

end Sys2Proof.Proofs
end

section
/-!
Arithmetic and logic (spec/41_arithmetic.md R140 to R153): ADC and SBC as arithmetic on natural
numbers and integers, and what each handler does to A, an index register, the flags or the byte at
EA.
-/

namespace Sys2Proof.Machine

/-! ## Add with carry as arithmetic (R142) -/

section

variable (a m : Byte) (carry : Bool)

theorem addResult_toNat : (addResult a m carry).toNat = addSum a m carry % 256 :=
  BitVec.toNat_ofNat (addSum a m carry) 8

theorem addCarry_eq_true_iff : addCarry a m carry = true ↔ 255 < addSum a m carry :=
  decide_eq_true_iff

/-- V as the rule's comment reads it: operands of equal sign, result of the other sign. -/
theorem addOverflow_eq_true_iff : addOverflow a m carry = true ↔
    a.msb = m.msb ∧ a.msb ≠ (addResult a m carry).msb := by
  rw [addOverflow, BitVec.msb_and, BitVec.msb_not, BitVec.msb_xor, BitVec.msb_xor]
  cases a.msb <;> cases m.msb <;> simp

/-- V is signed overflow: the signed sum is no byte. -/
theorem addOverflow_iff_not_fits : addOverflow a m carry = true ↔
    ¬ (-128 ≤ a.toInt + m.toInt + carry.toNat ∧ a.toInt + m.toInt + carry.toNat ≤ 127) := by
  have ha := a.isLt
  have hm := m.isLt
  have hcarry := Bool.toNat_le carry
  have hresult := addResult_toNat a m carry
  rw [addSum] at hresult
  rw [addOverflow_eq_true_iff, BitVec.toInt_eq_toNat_cond, BitVec.toInt_eq_toNat_cond]
  simp only [BitVec.msb_eq_decide, ne_eq, decide_eq_decide]
  split <;> split <;> omega

end

/-! ## SBC's complemented operand (R143) -/

section

variable (m : Byte)

theorem subtrahend_eq_not : subtrahend m = ~~~m := BitVec.xor_allOnes

theorem subtrahend_toNat : (subtrahend m).toNat = 255 - m.toNat := by
  rw [subtrahend_eq_not, BitVec.toNat_not]

theorem subtrahend_msb : (subtrahend m).msb = !m.msb := by
  rw [subtrahend_eq_not, BitVec.msb_not]
  rfl

theorem subtrahend_toInt : (subtrahend m).toInt = -m.toInt - 1 := by
  have hm := m.isLt
  rw [BitVec.toInt_eq_toNat_cond, BitVec.toInt_eq_toNat_cond, subtrahend_toNat]
  split <;> split <;> omega

end

/-! ## The flags each computation writes -/

/-- ADC and SBC write C, V, Z and N (R142, R143). -/
theorem getFlag_addFlags (f : Flag) (a m : Byte) (carry : Bool) (p : Byte) :
    getFlag f (addFlags a m carry p) =
      match f with
      | .c => addCarry a m carry
      | .v => addOverflow a m carry
      | .z => addResult a m carry == 0x00#8
      | .n => (addResult a m carry).msb
      | f => getFlag f p := by
  cases f <;> simp [addFlags]

/-- BIT writes Z, V and N (R147). -/
theorem getFlag_bitFlags (f : Flag) (a m p : Byte) :
    getFlag f (bitFlags a m p) =
      match f with
      | .z => (a &&& m) == 0x00#8
      | .v => m.getLsbD 6
      | .n => m.msb
      | f => getFlag f p := by
  cases f <;> simp [bitFlags, BitVec.msb_eq_getLsbD_last]

/-- A new status byte changes the flags that differ in it, and nothing else. -/
theorem setP_frame {regs : List Reg} {flags : List Flag} {bytes : List Word} {s : State} {p : Byte}
    (h : ∀ f, f ∉ flags → getFlag f p = getFlag f s.p) : Frame regs flags bytes s (s.setP p) where
  regs q _ := by cases q <;> rfl
  flags f hf := h f hf
  memory _ _ := rfl
  host := ⟨rfl, rfl, rfl⟩

/-! ## ADC and SBC (R142, R143) -/

/-- What a claim says of adding `m` with carry to A between two states, the cost apart. -/
structure AddsToA (m : Byte) (s t : State) : Prop where
  value : t.a = addResult s.a m (s.flag .c)
  carry : t.flag .c = addCarry s.a m (s.flag .c)
  overflow : t.flag .v = addOverflow s.a m (s.flag .c)
  zero : t.flag .z = true ↔ t.a = 0x00#8
  negative : t.flag .n = true ↔ 128 ≤ t.a.toNat
  frame : Frame [.a] [.c, .z, .v, .n] [] s t

/-- The flags `addToA` leaves, read off `addFlags`. -/
theorem flag_addToA (m : Byte) (s : State) (f : Flag) :
    (addToA m s).flag f = getFlag f (addFlags s.a m (s.flag .c) s.p) := rfl

theorem addToA_frame (m : Byte) (s : State) :
    Frame [.a] [.c, .z, .v, .n] [] s (addToA m s) := by
  refine (setReg_frame .a (addResult s.a m (s.flag .c)) s).trans (setP_frame fun f hf => ?_)
  rw [getFlag_addFlags]
  cases f <;> simp at hf <;> rfl

theorem addToA_addsToA (m : Byte) (s : State) : AddsToA m s (addToA m s) where
  value := rfl
  carry := by rw [flag_addToA, getFlag_addFlags]
  overflow := by rw [flag_addToA, getFlag_addFlags]
  zero := by
    rw [flag_addToA, getFlag_addFlags]
    exact beq_iff_eq
  negative := by
    rw [flag_addToA, getFlag_addFlags]
    exact msb_eq_true_iff _
  frame := addToA_frame m s

/-- ADC's handler and SBC's: add the operand, after `f`, with carry to A. -/
def addOperand (f : Byte → Byte) (o : Operand) (r : State) : State :=
  addToA (f (operandByte o r)) (noteFetched o r)

theorem handleAdc_eq_addOperand : handleAdc = addOperand id := rfl
theorem handleSbc_eq_addOperand : handleSbc = addOperand subtrahend := rfl

theorem addOperand_pc (f : Byte → Byte) (o : Operand) (r : State) :
    (addOperand f o r).pc = r.pc := noteFetched_pc o r

theorem addOperand_addsToA (f : Byte → Byte) (o : Operand) (r : State) :
    AddsToA (f (operandByte o r)) r (addOperand f o r) := by
  obtain ⟨hvalue, hcarry, hoverflow, hzero, hnegative, hframe⟩ :=
    addToA_addsToA (f (operandByte o r)) (noteFetched o r)
  rw [noteFetched_a, flag_noteFetched] at hvalue hcarry hoverflow
  exact ⟨hvalue, hcarry, hoverflow, hzero, hnegative, (noteFetched_frame o r).trans hframe⟩

/-- With the decided `DECIMAL_MODE` the guard lets every instruction run, whatever D is (R141). -/
theorem decimalGuard_eq (op : Byte) (s : State) (run : Host.Outcome State Fault Refusal) :
    decimalGuard op s run = run := by
  simp [decimalGuard, decimalMode_false]

/-- The claim about ADC and SBC, before the sum is read as arithmetic. -/
theorem exec_addOperand {i : Instr} {s : State} {f : Byte → Byte}
    (hexec : exec i s =
      decimalGuard i.opcode s (execute i.opcode i.operand (addOperand f i.operand) s)) :
    ∃ t, exec i s = .next t ∧ AddsToA (f (operandValue i.operand s)) s t ∧
      t.pc = nextPc i s ∧ t.remaining = cost i s 0 := by
  rw [decimalGuard_eq] at hexec
  obtain ⟨hvalue, hcarry, hoverflow, hzero, hnegative, hframe⟩ :=
    addOperand_addsToA f i.operand (resolved i.opcode i.operand s)
  rw [operandByte_resolved, resolved_a, flag_resolved] at hvalue hcarry hoverflow
  refine ⟨_, exec_of_execute hexec, ?_, ?_, rfl⟩
  · exact ⟨hvalue, hcarry, hoverflow, hzero, hnegative, execute_frame _ hframe⟩
  · rw [State.setRemaining_pc, addOperand_pc, resolved_pc_eq_nextPc]

/-! ## AND, ORA, EOR (R144 to R146) -/

/-- The three handlers: combine A with the operand into A, Z and N from the result. -/
def combineIntoA (f : Byte → Byte → Byte) (o : Operand) (r : State) : State :=
  loadReg .a (f r.a (operandByte o r)) (noteFetched o r)

theorem handleAnd_eq_combineIntoA : handleAnd = combineIntoA (· &&& ·) := rfl
theorem handleOra_eq_combineIntoA : handleOra = combineIntoA (· ||| ·) := rfl
theorem handleEor_eq_combineIntoA : handleEor = combineIntoA (· ^^^ ·) := rfl

theorem combineIntoA_loadsReg (f : Byte → Byte → Byte) (o : Operand) (r : State) :
    LoadsReg .a (f r.a (operandByte o r)) r (combineIntoA f o r) :=
  (loadReg_loadsReg .a _ (noteFetched o r)).of_frame (noteFetched_frame o r)

/-- The claim about an operation that works bit by bit, as `g`. -/
theorem exec_combineIntoA {i : Instr} {s : State} {f : Byte → Byte → Byte} {g : Bool → Bool → Bool}
    (hbits : ∀ x y k, k < 8 → (f x y).getLsbD k = g (x.getLsbD k) (y.getLsbD k))
    (hexec : exec i s = execute i.opcode i.operand (combineIntoA f i.operand) s) :
    ∃ t, exec i s = .next t ∧
      (∀ k < 8, t.a.getLsbD k = g (s.a.getLsbD k) ((operandValue i.operand s).getLsbD k)) ∧
      (t.flag .z = true ↔ t.a = 0x00#8) ∧ (t.flag .n = true ↔ 128 ≤ t.a.toNat) ∧
      t.pc = nextPc i s ∧ t.remaining = cost i s 0 ∧ Frame [.a] [.z, .n] [] s t := by
  have hload := combineIntoA_loadsReg f i.operand (resolved i.opcode i.operand s)
  obtain ⟨t, ht, ⟨hvalue, hzero, hnegative, hframe⟩, hpc, hcost⟩ :=
    exec_of_loadsReg hexec (by simp [combineIntoA]) hload
  rw [← hvalue] at hzero hnegative
  have ha : t.a = f s.a (operandValue i.operand s) := by
    rwa [resolved_a, operandByte_resolved] at hvalue
  refine ⟨t, ht, fun k hk => ?_, hzero, hnegative, hpc, hcost, hframe⟩
  rw [ha, hbits _ _ k hk]

/-! ## Instructions whose operand is the byte at EA -/

/-- In a mode other than Accumulator and Immediate the operand is the byte at EA (R109). -/
theorem operandValue_eq_read {o : Operand} (hacc : o ≠ .acc) (himm : o.mode ≠ .imm) (s : State) :
    operandValue o s = s.mem.read (effAddr o s) := by
  cases o
  case acc => exact absurd rfl hacc
  case imm => exact absurd rfl himm
  all_goals rfl

section

variable {i : Instr} (h : i.mnemonic ∈ [Mnemonic.bit, .inc, .dec])

include h

theorem operand_ne_acc_of_bit_inc_dec : i.operand ≠ .acc :=
  have hdisj : ∀ m ∈ [Mnemonic.bit, .inc, .dec], m ∉ [Mnemonic.asl, .lsr, .rol, .ror] := by decide
  mt mnemonic_of_operand_acc (hdisj _ h)

theorem mode_ne_imm_of_bit_inc_dec : i.operand.mode ≠ .imm :=
  have hdisj : ∀ m ∈ [Mnemonic.bit, .inc, .dec], m ∉
      [Mnemonic.lda, .ldx, .ldy, .adc, .sbc, .and, .ora, .eor, .cmp, .cpx, .cpy] := by decide
  mt mnemonic_of_mode_imm (hdisj _ h)

/-- BIT, INC and DEC work on the byte at EA. -/
theorem operandValue_of_bit_inc_dec (s : State) :
    operandValue i.operand s = s.mem.read (effAddr i.operand s) :=
  operandValue_eq_read (operand_ne_acc_of_bit_inc_dec h) (mode_ne_imm_of_bit_inc_dec h) s

theorem resolved_addrAbs_of_bit_inc_dec (s : State) :
    (resolved i.opcode i.operand s).addrAbs = effAddr i.operand s := by
  rw [resolved_addrAbs, effAddr_fetchOpcode _ _ _ (mode_ne_imm_of_bit_inc_dec h)]

/-- BIT, INC and DEC take the base cost whether or not the page is crossed (R89). -/
theorem cost_of_bit_inc_dec (s : State) : cost i s 0 = (descriptor i.opcode).baseCycles := by
  have hdoc : ∀ m ∈ [Mnemonic.bit, .inc, .dec], m ≠ .undocumented := by decide
  have hdisj : ∀ m ∈ [Mnemonic.bit, .inc, .dec],
      m ∉ [Mnemonic.adc, .and, .cmp, .eor, .lda, .ldx, .ldy, .ora, .sbc] := by decide
  exact cost_of_pagePenalty_false s (pagePenalty_eq_false (hdoc _ h) (hdisj _ h))

end

/-! ## BIT (R147) -/

/-- Bit 6 of a byte as arithmetic. -/
theorem getLsbD_six_iff (m : Byte) : m.getLsbD 6 = true ↔ 64 ≤ m.toNat % 128 := by
  rw [BitVec.getLsbD, Nat.testBit_eq_decide_div_mod_eq, decide_eq_true_iff]
  omega

/-- The flags BIT's handler leaves, read off `bitFlags`. -/
theorem flag_handleBit (o : Operand) (r : State) (f : Flag) :
    (handleBit o r).flag f = getFlag f (bitFlags r.a (operandByte o r) r.p) := rfl

theorem handleBit_frame (o : Operand) (r : State) :
    Frame [] [.z, .v, .n] [] r (handleBit o r) := by
  refine (noteFetched_frame o r).trans (setP_frame fun f hf => ?_)
  rw [getFlag_bitFlags, noteFetched_p]
  cases f <;> simp at hf <;> rfl

/-! ## INC and DEC (R148, R149) -/

theorem writeBack_frame {regs : List Reg} {flags : List Flag} {o : Operand} (ho : o ≠ .acc)
    (v : Byte) (r : State) : Frame regs flags [r.addrAbs] r (writeBack o v r) where
  regs q _ := by cases q <;> simp [State.reg, ho]
  flags _ _ := by rw [State.flag, writeBack_p, State.flag]
  memory a ha := by
    rw [writeBack_mem, if_neg ho, Memory.read_write_other r.mem v (List.ne_of_not_mem_cons ha)]
  host := ⟨writeBack_totalCycles o r v, writeBack_refused o r v, writeBack_busAttached o r v⟩

/-- But in Accumulator mode a read-modify-write is one read and one write at EA (R57, R58). -/
theorem modifyAccesses_of_ne_acc {o : Operand} (ho : o ≠ .acc) (v : Byte) (r : State) :
    modifyAccesses o v r = [.read r.addrAbs (r.mem.read r.addrAbs), .write r.addrAbs v] := by
  have hwrite : writeBackAccesses o v r = [.write r.addrAbs v] := by
    cases o
    case acc => exact absurd rfl ho
    all_goals rfl
  rw [modifyAccesses, operandReadAccesses_of_ne_acc ho, hwrite]
  rfl

/-- INC's handler and DEC's: the operand goes through `f` and back, Z and N from the result. -/
def modifyOperand (f : Byte → Byte) (o : Operand) (r : State) : State :=
  (writeBack o (f (operandByte o r)) (noteFetched o r)).setZN (f (operandByte o r))

theorem handleInc_eq_modifyOperand : handleInc = modifyOperand (· + 1) := rfl
theorem handleDec_eq_modifyOperand : handleDec = modifyOperand (· - 1) := rfl

theorem modifyOperand_frame (f : Byte → Byte) {o : Operand} (ho : o ≠ .acc) (r : State) :
    Frame [] [.z, .n] [r.addrAbs] r (modifyOperand f o r) := by
  have hwrite := writeBack_frame (regs := []) (flags := [.z, .n]) ho (f (operandByte o r))
    (noteFetched o r)
  rw [noteFetched_addrAbs] at hwrite
  exact (noteFetched_frame o r).trans (hwrite.trans (setZN_frame _ _))

theorem read_modifyOperand (f : Byte → Byte) {o : Operand} (ho : o ≠ .acc) {r : State}
    (hm : r.mem.wf) : (modifyOperand f o r).mem.read r.addrAbs = f (operandByte o r) := by
  rw [modifyOperand, State.setZN_mem, writeBack_mem, if_neg ho, noteFetched_mem,
    noteFetched_addrAbs, Memory.read_write_same hm]

/-- The claim about INC and DEC, the new byte being `f` of the old. -/
theorem exec_modifyOperand {i : Instr} {s : State} {f : Byte → Byte}
    (hm : i.mnemonic ∈ [Mnemonic.bit, .inc, .dec])
    (hexec : exec i s = execute i.opcode i.operand (modifyOperand f i.operand) s)
    (hacc : ∀ r, handlerAccesses i.mnemonic i.operand r =
      modifyAccesses i.operand (f (operandByte i.operand r)) r) :
    ∃ t, exec i s = .next t ∧
      (s.mem.wf → t.mem.read (effAddr i.operand s) = f (s.mem.read (effAddr i.operand s))) ∧
      (t.flag .z = true ↔ f (s.mem.read (effAddr i.operand s)) = 0x00#8) ∧
      (t.flag .n = true ↔ 128 ≤ (f (s.mem.read (effAddr i.operand s))).toNat) ∧
      handlerAccesses i.mnemonic i.operand (resolved i.opcode i.operand s) =
        [.read (effAddr i.operand s) (s.mem.read (effAddr i.operand s)),
          .write (effAddr i.operand s) (f (s.mem.read (effAddr i.operand s)))] ∧
      t.pc = nextPc i s ∧ t.remaining = (descriptor i.opcode).baseCycles ∧
      Frame [] [.z, .n] [effAddr i.operand s] s t := by
  have ho := operand_ne_acc_of_bit_inc_dec hm
  have hbyte : operandByte i.operand (resolved i.opcode i.operand s) =
      s.mem.read (effAddr i.operand s) := by
    rw [operandByte_resolved, operandValue_of_bit_inc_dec hm]
  have hea := resolved_addrAbs_of_bit_inc_dec hm s
  refine ⟨_, exec_of_execute hexec, fun hwf => ?_, ?_, ?_, ?_, ?_, cost_of_bit_inc_dec hm s, ?_⟩
  · rw [← hbyte, ← hea]
    exact read_modifyOperand f ho (by rwa [resolved_mem])
  · simp [State.flag, modifyOperand, hbyte]
  · simp [State.flag, modifyOperand, hbyte, msb_eq_true_iff]
  · rw [hacc, modifyAccesses_of_ne_acc ho, hbyte, hea, resolved_mem]
  · rw [← resolved_pc_eq_nextPc]
    simp [modifyOperand]
  · rw [← hea]
    exact execute_frame _ (modifyOperand_frame f ho _)

/-! ## INX, INY, DEX, DEY (R150 to R153) -/

/-- The four handlers for the register `g`: `g <- f(g); SetZN(g)`. -/
def modifyReg (g : Reg) (f : Byte → Byte) (r : State) : State := loadReg g (f (r.reg g)) r

theorem handleInx_eq_modifyReg : handleInx = modifyReg .x (· + 1) := rfl
theorem handleIny_eq_modifyReg : handleIny = modifyReg .y (· + 1) := rfl
theorem handleDex_eq_modifyReg : handleDex = modifyReg .x (· - 1) := rfl
theorem handleDey_eq_modifyReg : handleDey = modifyReg .y (· - 1) := rfl

/-- The claim about an Implied row of two cycles that puts `f` of the register `g` back into it,
with `f` adding `n` modulo 256. -/
theorem exec_modifyReg {i : Instr} {s : State} {g : Reg} {f : Byte → Byte} {n : Nat}
    (hf : ∀ v, (f v).toNat = (v.toNat + n) % 256) (hop : i.operand = .imp)
    (hbase : (descriptor i.opcode).baseCycles = 2)
    (hacc : ∀ r, handlerAccesses i.mnemonic .imp r = [])
    (hexec : exec i s = execute i.opcode i.operand (modifyReg g f) s) :
    ∃ t, exec i s = .next t ∧ (t.reg g).toNat = ((s.reg g).toNat + n) % 256 ∧
      (t.flag .z = true ↔ t.reg g = 0x00#8) ∧ (t.flag .n = true ↔ 128 ≤ (t.reg g).toNat) ∧
      t.pc = s.pc + 1 ∧ t.remaining = 2 ∧ Frame [g] [.z, .n] [] s t ∧
      instrAccesses i s = [.read s.pc (s.mem.read s.pc)] := by
  have hload := loadReg_loadsReg g (f ((resolved i.opcode i.operand s).reg g))
    (resolved i.opcode i.operand s)
  obtain ⟨t, ht, ⟨hvalue, hzero, hnegative, hframe⟩, hpc, hcost⟩ :=
    exec_of_loadsReg hexec (by simp [modifyReg]) hload
  rw [← hvalue] at hzero hnegative
  rw [reg_resolved] at hvalue
  have hnext : nextPc i s = s.pc + 1 := by
    simp [nextPc, Instr.length, hop, Operand.mode, Mode.width]
  have htwo : cost i s 0 = 2 := by simp [cost, hop, pageCrossed, hbase]
  exact ⟨t, ht, hvalue ▸ hf _, hzero, hnegative, hpc.trans hnext, hcost.trans htwo, hframe,
    instrAccesses_implied s hop hacc⟩

/-- Adding 1 to a byte, as arithmetic. -/
theorem byte_add_one_toNat (v : Byte) : (v + 1).toNat = (v.toNat + 1) % 256 := BitVec.toNat_add v 1

/-- Subtracting 1 from a byte is adding 255, as arithmetic. -/
theorem byte_sub_one_toNat (v : Byte) : (v - 1).toNat = (v.toNat + 255) % 256 := by
  rw [Nat.add_comm]
  exact BitVec.toNat_sub v 1

end Sys2Proof.Machine

namespace Sys2Proof.Proofs

open Sys2Proof.Machine

/-- Settles O21: ADC adds its operand as it is; the sum, the carry and the overflow are then read as
arithmetic. -/
theorem adcAddsWithCarry : Obligations.AdcAddsWithCarry := by
  unfold Obligations.AdcAddsWithCarry
  refine ⟨by decide, fun i s sum hi hsum => ?_⟩
  obtain ⟨t, ht, ⟨hvalue, hcarry, hoverflow, hzero, hnegative, hframe⟩, hpc, hcost⟩ :=
    exec_addOperand (handleAdc_eq_addOperand ▸ exec_adc s hi)
  rw [id] at hvalue hcarry hoverflow
  change sum = addSum s.a (operandValue i.operand s) (s.flag .c) at hsum
  refine ⟨t, ht, ?_, ?_, ?_, ?_, hzero, hnegative, hpc, hcost, hframe⟩
  · rw [hvalue, addResult_toNat, hsum]
  · rw [hcarry, addCarry_eq_true_iff, hsum]
  · rw [hoverflow, addOverflow_eq_true_iff, hvalue]
  · rw [hoverflow, addOverflow_iff_not_fits]

/-- Settles O22: SBC adds the complement of its operand, which is `255 - m` as a natural number and
`-m - 1` as an integer, so that the carry in is the missing borrow. The kernel alone reads the rows:
they stand too late in the table for the elaborator's evaluation. -/
theorem sbcSubtractsWithBorrow : Obligations.SbcSubtractsWithBorrow := by
  unfold Obligations.SbcSubtractsWithBorrow
  refine ⟨by decide +kernel, fun i s m borrow hi hm hborrow => ?_⟩
  obtain ⟨t, ht, ⟨hvalue, hcarry, hoverflow, hzero, hnegative, hframe⟩, hpc, hcost⟩ :=
    exec_addOperand (handleSbc_eq_addOperand ▸ exec_sbc s hi)
  have hle := Bool.toNat_le (s.flag .c)
  have hlt := (operandValue i.operand s).isLt
  have hsum : addSum s.a (subtrahend (operandValue i.operand s)) (s.flag .c) =
      s.a.toNat + 256 - m - borrow := by
    rw [addSum, subtrahend_toNat]
    omega
  refine ⟨t, ht, ?_, ?_, ?_, ?_, hzero, hnegative, hpc, hcost, hframe⟩
  · rw [hvalue, addResult_toNat, hsum]
  · rw [hcarry, addCarry_eq_true_iff, hsum]
    omega
  · rw [hoverflow, addOverflow_eq_true_iff, hvalue, subtrahend_msb, Bool.eq_not]
  · rw [hoverflow, addOverflow_iff_not_fits, subtrahend_toInt]
    omega

/-- Settles O23: each of the three is `combineIntoA` of its bitwise operation under `Execute`. -/
theorem logicIntoA : Obligations.LogicIntoA := by
  unfold Obligations.LogicIntoA
  refine ⟨by decide, by decide, by decide, fun i s hm => ?_⟩
  have hcases : i.mnemonic = .and ∨ i.mnemonic = .ora ∨ i.mnemonic = .eor := by simpa using hm
  rcases hcases with hi | hi | hi
  · simp only [hi]
    exact exec_combineIntoA (fun x y k _ => BitVec.getLsbD_and)
      (handleAnd_eq_combineIntoA ▸ exec_and s hi)
  · simp only [hi]
    exact exec_combineIntoA (fun x y k _ => BitVec.getLsbD_or)
      (handleOra_eq_combineIntoA ▸ exec_ora s hi)
  · simp only [hi]
    exact exec_combineIntoA (fun x y k _ => BitVec.getLsbD_xor)
      (handleEor_eq_combineIntoA ▸ exec_eor s hi)

/-- Settles O24: BIT's operand is the byte at EA, and its flags are `bitFlags` of A and it. -/
theorem bitTestsTheMemoryByte : Obligations.BitTestsTheMemoryByte := by
  unfold Obligations.BitTestsTheMemoryByte
  refine ⟨by decide, fun i s m hi hm => ?_⟩
  have hflag : ∀ f, (handleBit i.operand (resolved i.opcode i.operand s)).flag f =
      getFlag f (bitFlags s.a m s.p) := fun f => by
    rw [flag_handleBit, operandByte_resolved, operandValue_of_bit_inc_dec (by simp [hi]), ← hm,
      resolved_a, resolved_p]
  refine ⟨_, exec_of_execute (exec_bit s hi), ?_, ?_, ?_, ?_, rfl,
    execute_frame _ (handleBit_frame _ _)⟩
  · exact (hflag .z).trans (getFlag_bitFlags ..) ▸ beq_iff_eq
  · exact (hflag .v).trans (getFlag_bitFlags ..) ▸ getLsbD_six_iff m
  · exact (hflag .n).trans (getFlag_bitFlags ..) ▸ msb_eq_true_iff m
  · rw [← resolved_pc_eq_nextPc]
    simp [handleBit]

/-- Settles O25: INC and DEC are `modifyOperand` under `Execute`, once the claim's `r` is known by
its number to be the byte plus or minus 1. The kernel alone reads the rows, as for O22. -/
theorem incDecMemory : Obligations.IncDecMemory := by
  unfold Obligations.IncDecMemory
  refine ⟨by decide +kernel, by decide +kernel, fun i s ea r hm hea hr => ?_⟩
  subst hea
  have hcases : i.mnemonic = .inc ∨ i.mnemonic = .dec := by simpa using hm
  rcases hcases with hi | hi
  · have hinc : r = s.mem.read (effAddr i.operand s) + 1 :=
      BitVec.eq_of_toNat_eq (by rw [byte_add_one_toNat, hr, if_pos hi])
    rw [hinc]
    exact exec_modifyOperand (by simp [hi]) (handleInc_eq_modifyOperand ▸ exec_inc s hi)
      fun r => by rw [hi]; rfl
  · have hdec : r = s.mem.read (effAddr i.operand s) - 1 :=
      BitVec.eq_of_toNat_eq (by rw [byte_sub_one_toNat, hr, if_neg (by simp [hi])])
    rw [hdec]
    exact exec_modifyOperand (by simp [hi]) (handleDec_eq_modifyOperand ▸ exec_dec s hi)
      fun r => by rw [hi]; rfl

/-- Settles O26: each is `modifyReg` of its register, which adds 1 or 255 modulo 256, under
`Execute`. The kernel alone reads the rows, as for O22. -/
theorem incDecIndexRegisters : Obligations.IncDecIndexRegisters := by
  unfold Obligations.IncDecIndexRegisters
  refine ⟨by decide +kernel, by decide +kernel, by decide +kernel, by decide +kernel,
    fun s => ⟨?_, ?_, ?_, ?_⟩⟩
  · exact exec_modifyReg (i := .inx) (g := .x) byte_add_one_toNat rfl rfl (fun _ => rfl)
      (handleInx_eq_modifyReg ▸ exec_inx s rfl)
  · exact exec_modifyReg (i := .iny) (g := .y) byte_add_one_toNat rfl rfl (fun _ => rfl)
      (handleIny_eq_modifyReg ▸ exec_iny s rfl)
  · exact exec_modifyReg (i := .dex) (g := .x) byte_sub_one_toNat rfl rfl (fun _ => rfl)
      (handleDex_eq_modifyReg ▸ exec_dex s rfl)
  · exact exec_modifyReg (i := .dey) (g := .y) byte_sub_one_toNat rfl rfl (fun _ => rfl)
      (handleDey_eq_modifyReg ▸ exec_dey s rfl)

end Sys2Proof.Proofs
end

section
/-!
Shifts and rotates (spec/42_shift_rotate.md R160 to R163): the four results and the bits moved out
as arithmetic, and the one handler shape they share in its Accumulator form and its memory forms.
-/

namespace Sys2Proof.Machine

/-! ## The results and the bits moved out as arithmetic -/

section

variable (m : Byte) (carry : Bool)

theorem aslResult_toNat : (aslResult m).toNat = 2 * m.toNat % 256 := by
  rw [aslResult, BitVec.toNat_shiftLeft, Nat.shiftLeft_eq, Nat.mul_comm]

theorem lsrResult_toNat : (lsrResult m).toNat = m.toNat / 2 := by
  rw [lsrResult, BitVec.toNat_ushiftRight, Nat.shiftRight_eq_div_pow]

/-- The `|||` of two bytes that share no bit is their sum. -/
theorem toNat_or_of_and_eq_zero {x y : Byte} (h : x &&& y = 0#8) :
    (x ||| y).toNat = x.toNat + y.toNat := by
  rw [← BitVec.add_eq_or_of_and_eq_zero x y h, BitVec.toNat_add_of_and_eq_zero h]

/-- ROL is ASL with the old carry added at bit 0 (R162). -/
theorem rolResult_toNat :
    (rolResult carry m).toNat = 2 * m.toNat % 256 + carry.toNat := by
  have hdisjoint : aslResult m &&& (BitVec.ofBool carry).setWidth 8 = 0#8 := by
    ext k
    cases k <;> simp [aslResult]
  change (aslResult m ||| _).toNat = _
  rw [toNat_or_of_and_eq_zero hdisjoint, aslResult_toNat]
  cases carry <;> rfl

/-- ROR is LSR with the old carry added at bit 7 (R163). -/
theorem rorResult_toNat :
    (rorResult carry m).toNat = m.toNat / 2 + 128 * carry.toNat := by
  have hdisjoint : lsrResult m &&& ((BitVec.ofBool carry).setWidth 8 <<< 7) = 0#8 := by
    ext k hk
    obtain hlow | rfl : k < 7 ∨ k = 7 := by omega
    · simp [hlow]
    · simp [lsrResult]
  change (lsrResult m ||| _).toNat = _
  rw [toNat_or_of_and_eq_zero hdisjoint, lsrResult_toNat]
  cases carry <;> rfl

theorem leftCarry_eq_true_iff : leftCarry m = true ↔ 128 ≤ m.toNat := by
  rw [leftCarry, ← msb_eq_true_iff, BitVec.msb_eq_getLsbD_last]

theorem rightCarry_eq_true_iff : rightCarry m = true ↔ m.toNat % 2 = 1 := by
  rw [rightCarry, BitVec.getLsbD, Nat.testBit_zero, decide_eq_true_iff]

end

/-- The cost counter is no flag (R38). -/
@[simp] theorem State.flag_setRemaining (s : State) (n : Nat) (f : Flag) :
    (s.setRemaining n).flag f = s.flag f := rfl

/-! ## The shared end of the four: write back, then C, Z and N -/

/-- A shift or a rotate writes C, Z and N (R160 to R163). -/
theorem getFlag_shiftFlags (f : Flag) (v : Byte) (out : Bool) (p : Byte) :
    getFlag f (shiftFlags v out p) =
      match f with
      | .c => out
      | .z => v == 0x00#8
      | .n => v.msb
      | f => getFlag f p := by
  cases f <;> simp [shiftFlags]

section

variable (v : Byte) (out : Bool) (r : State)

/-- The flags `shiftWith` leaves, read off `shiftFlags`. -/
theorem flag_shiftWith (o : Operand) (f : Flag) :
    (shiftWith o v out r).flag f = getFlag f (shiftFlags v out r.p) := rfl

theorem shiftWith_pc (o : Operand) : (shiftWith o v out r).pc = r.pc := by
  simp [shiftWith]

theorem shiftFlags_frame {regs : List Reg} {bytes : List Word} :
    Frame regs [.c, .z, .n] bytes r (r.setP (shiftFlags v out r.p)) := by
  refine setP_frame fun f hf => ?_
  rw [getFlag_shiftFlags]
  cases f <;> simp at hf <;> rfl

/-- The Accumulator form changes A and the three flags. -/
theorem shiftWith_acc_frame : Frame [.a] [.c, .z, .n] [] r (shiftWith .acc v out r) :=
  (setReg_frame .a v r).trans (shiftFlags_frame v out (r.setReg .a v))

/-- A memory form changes the byte at EA and the three flags. -/
theorem shiftWith_memory_frame {o : Operand} (ho : o ≠ .acc) :
    Frame [] [.c, .z, .n] [r.addrAbs] r (shiftWith o v out r) := by
  have hwrite := writeBack_frame (regs := []) (flags := [.c, .z, .n]) ho v (noteFetched o r)
  rw [noteFetched_addrAbs] at hwrite
  have hflags := shiftFlags_frame (regs := []) (bytes := [r.addrAbs]) v out
    (writeBack o v (noteFetched o r))
  rw [writeBack_p, noteFetched_p] at hflags
  exact (noteFetched_frame o r).trans (hwrite.trans hflags)

theorem read_shiftWith {o : Operand} (ho : o ≠ .acc) (hm : r.mem.wf) :
    (shiftWith o v out r).mem.read r.addrAbs = v := by
  rw [shiftWith, State.setP_mem, writeBack_mem, if_neg ho, noteFetched_mem, noteFetched_addrAbs,
    Memory.read_write_same hm]

end

/-! ## The rows: no Immediate form and no page penalty -/

section

variable {i : Instr} (h : i.mnemonic ∈ [Mnemonic.asl, .lsr, .rol, .ror]) (s : State)

include h

theorem mode_ne_imm_of_shift : i.operand.mode ≠ .imm :=
  have hdisj : ∀ m ∈ [Mnemonic.asl, .lsr, .rol, .ror], m ∉
      [Mnemonic.lda, .ldx, .ldy, .adc, .sbc, .and, .ora, .eor, .cmp, .cpx, .cpy] := by decide
  mt mnemonic_of_mode_imm (hdisj _ h)

theorem resolved_addrAbs_of_shift :
    (resolved i.opcode i.operand s).addrAbs = effAddr i.operand s := by
  rw [resolved_addrAbs, effAddr_fetchOpcode _ _ _ (mode_ne_imm_of_shift h)]

/-- A shift or a rotate takes its base cost whether or not the page is crossed (R89). -/
theorem cost_of_shift : cost i s 0 = (descriptor i.opcode).baseCycles := by
  have hdoc : ∀ m ∈ [Mnemonic.asl, .lsr, .rol, .ror], m ≠ .undocumented := by decide
  have hdisj : ∀ m ∈ [Mnemonic.asl, .lsr, .rol, .ror],
      m ∉ [Mnemonic.adc, .and, .cmp, .eor, .lda, .ldx, .ldy, .ora, .sbc] := by decide
  exact cost_of_pagePenalty_false s (pagePenalty_eq_false (hdoc _ h) (hdisj _ h))

end

/-! ## The four handlers under `Execute` -/

/-- The four handlers: `result` of the old C and the operand is written back, and the bit `out` of
the operand goes to C. -/
def shiftOperand (result : Bool → Byte → Byte) (out : Byte → Bool) (o : Operand) (r : State) :
    State :=
  shiftWith o (result (r.flag .c) (operandByte o r)) (out (operandByte o r)) r

theorem handleAsl_eq_shiftOperand : handleAsl = shiftOperand (fun _ => aslResult) leftCarry := rfl
theorem handleLsr_eq_shiftOperand : handleLsr = shiftOperand (fun _ => lsrResult) rightCarry := rfl
theorem handleRol_eq_shiftOperand : handleRol = shiftOperand rolResult leftCarry := rfl
theorem handleRor_eq_shiftOperand : handleRor = shiftOperand rorResult rightCarry := rfl

/-- What a claim says of an instruction that shifts or rotates its operand `m` to `v` and moves
`out` to C, from a boundary state to the state it answers. -/
structure ShiftsOperand (i : Instr) (m v : Byte) (out : Bool) (s t : State) : Prop where
  carry : t.flag .c = out
  zero : t.flag .z = true ↔ v = 0x00#8
  negative : t.flag .n = true ↔ 128 ≤ v.toNat
  accumulator : i.operand = .acc → t.a = v ∧ Frame [.a] [.c, .z, .n] [] s t ∧
    handlerAccesses i.mnemonic i.operand (resolved i.opcode i.operand s) = []
  memory : i.operand ≠ .acc → (s.mem.wf → t.mem.read (effAddr i.operand s) = v) ∧
    Frame [] [.c, .z, .n] [effAddr i.operand s] s t ∧
    handlerAccesses i.mnemonic i.operand (resolved i.opcode i.operand s) =
      [.read (effAddr i.operand s) m, .write (effAddr i.operand s) v]
  pc : t.pc = nextPc i s
  cost : t.remaining = (descriptor i.opcode).baseCycles

/-- The claim about the four, before the result and the bit moved out are read as arithmetic. -/
theorem exec_shiftOperand {i : Instr} {s : State} {m v : Byte} {result : Bool → Byte → Byte}
    {out : Byte → Bool} (hi : i.mnemonic ∈ [Mnemonic.asl, .lsr, .rol, .ror])
    (hm : m = operandValue i.operand s) (hv : v = result (s.flag .c) m)
    (hexec : exec i s = execute i.opcode i.operand (shiftOperand result out i.operand) s)
    (hacc : ∀ r, handlerAccesses i.mnemonic i.operand r =
      modifyAccesses i.operand (result (r.flag .c) (operandByte i.operand r)) r) :
    ∃ t, exec i s = .next t ∧ ShiftsOperand i m v (out m) s t := by
  have hstate : shiftOperand result out i.operand (resolved i.opcode i.operand s) =
      shiftWith i.operand v (out m) (resolved i.opcode i.operand s) := by
    rw [shiftOperand, operandByte_resolved, flag_resolved, ← hm, ← hv]
  have haccesses : handlerAccesses i.mnemonic i.operand (resolved i.opcode i.operand s) =
      modifyAccesses i.operand v (resolved i.opcode i.operand s) := by
    rw [hacc, operandByte_resolved, flag_resolved, ← hm, ← hv]
  have hea := resolved_addrAbs_of_shift hi s
  rw [exec_of_execute hexec, hstate]
  refine ⟨_, rfl, ?_⟩
  constructor
  case carry => rw [State.flag_setRemaining, flag_shiftWith, getFlag_shiftFlags]
  case zero =>
    rw [State.flag_setRemaining, flag_shiftWith, getFlag_shiftFlags]
    exact beq_iff_eq
  case negative =>
    rw [State.flag_setRemaining, flag_shiftWith, getFlag_shiftFlags]
    exact msb_eq_true_iff v
  case accumulator =>
    intro ho
    have hframe := execute_frame (cost i s 0)
      (shiftWith_acc_frame v (out m) (resolved i.opcode .acc s))
    rw [haccesses, ho]
    exact ⟨rfl, hframe, rfl⟩
  case memory =>
    intro ho
    have hread : (resolved i.opcode i.operand s).mem.read
        (resolved i.opcode i.operand s).addrAbs = m := by
      rw [hm, operandValue_eq_read ho (mode_ne_imm_of_shift hi), resolved_mem, hea]
    rw [haccesses, modifyAccesses_of_ne_acc ho, hread, ← hea]
    exact ⟨fun hwf => read_shiftWith v (out m) _ ho (by rwa [resolved_mem]),
      execute_frame _ (shiftWith_memory_frame v (out m) _ ho), rfl⟩
  case pc => rw [State.setRemaining_pc, shiftWith_pc, resolved_pc_eq_nextPc]
  case cost => exact cost_of_shift hi s

end Sys2Proof.Machine

namespace Sys2Proof.Proofs

open Sys2Proof.Machine

/-- Settles O27: ASL and LSR are `shiftOperand` of their results under `Execute`, once the claim's
`r` is known by its number to be the result; LSR's is below 128. -/
theorem shiftsMoveOneBit : Obligations.ShiftsMoveOneBit := by
  unfold Obligations.ShiftsMoveOneBit
  refine ⟨by decide, by decide, fun i s m r hmem hm hr => ?_⟩
  have hcases : i.mnemonic = .asl ∨ i.mnemonic = .lsr := by simpa using hmem
  rcases hcases with hi | hi
  · have hresult : r = aslResult m :=
      BitVec.eq_of_toNat_eq (by rw [aslResult_toNat, hr, if_pos hi])
    obtain ⟨t, ht, hcarry, hzero, hnegative, hacc, hmemory, hpc, hcost⟩ :=
      exec_shiftOperand (by simp [hi]) hm hresult
        (handleAsl_eq_shiftOperand ▸ exec_asl s hi) fun r => by rw [hi]; rfl
    refine ⟨t, ht, ?_, fun hlsr => ?_, hzero, hnegative, hacc, hmemory, hpc, hcost⟩
    · rw [hcarry, if_pos hi, leftCarry_eq_true_iff]
    · simp [hi] at hlsr
  · have hne : i.mnemonic ≠ .asl := by simp [hi]
    rw [if_neg hne] at hr
    have hresult : r = lsrResult m :=
      BitVec.eq_of_toNat_eq (by rw [lsrResult_toNat, hr])
    obtain ⟨t, ht, hcarry, hzero, hnegative, hacc, hmemory, hpc, hcost⟩ :=
      exec_shiftOperand (by simp [hi]) hm hresult
        (handleLsr_eq_shiftOperand ▸ exec_lsr s hi) fun r => by rw [hi]; rfl
    refine ⟨t, ht, ?_, fun _ => ?_, hzero, hnegative, hacc, hmemory, hpc, hcost⟩
    · rw [hcarry, if_neg hne, rightCarry_eq_true_iff]
    · have hsmall : ¬ 128 ≤ r.toNat := by
        have hlt := m.isLt
        omega
      exact Bool.eq_false_iff.mpr (mt hnegative.mp hsmall)

/-- Settles O28: ROL and ROR are `shiftOperand` of their results under `Execute`, as in O27; ROR's
is at least 128 exactly when the old C is set. -/
theorem rotatesGoThroughCarry : Obligations.RotatesGoThroughCarry := by
  unfold Obligations.RotatesGoThroughCarry
  refine ⟨by decide, by decide, fun i s m r hmem hm hr => ?_⟩
  have hcases : i.mnemonic = .rol ∨ i.mnemonic = .ror := by simpa using hmem
  rcases hcases with hi | hi
  · have hresult : r = rolResult (s.flag .c) m :=
      BitVec.eq_of_toNat_eq (by rw [rolResult_toNat, hr, if_pos hi])
    obtain ⟨t, ht, hcarry, hzero, hnegative, hacc, hmemory, hpc, hcost⟩ :=
      exec_shiftOperand (by simp [hi]) hm hresult
        (handleRol_eq_shiftOperand ▸ exec_rol s hi) fun r => by rw [hi]; rfl
    refine ⟨t, ht, ?_, fun hror => ?_, hzero, hnegative, hacc, hmemory, hpc, hcost⟩
    · rw [hcarry, if_pos hi, leftCarry_eq_true_iff]
    · simp [hi] at hror
  · have hne : i.mnemonic ≠ .rol := by simp [hi]
    rw [if_neg hne] at hr
    have hresult : r = rorResult (s.flag .c) m :=
      BitVec.eq_of_toNat_eq (by rw [rorResult_toNat, hr])
    obtain ⟨t, ht, hcarry, hzero, hnegative, hacc, hmemory, hpc, hcost⟩ :=
      exec_shiftOperand (by simp [hi]) hm hresult
        (handleRor_eq_shiftOperand ▸ exec_ror s hi) fun r => by rw [hi]; rfl
    refine ⟨t, ht, ?_, fun _ => ?_, hzero, hnegative, hacc, hmemory, hpc, hcost⟩
    · rw [hcarry, if_neg hne, rightCarry_eq_true_iff]
    · have hlt := m.isLt
      have hle := Bool.toNat_le (s.flag .c)
      rw [Bool.eq_iff_iff, hnegative, hr, ← Bool.toNat_eq_one]
      omega

end Sys2Proof.Proofs
end

section
/-!
Compares (spec/43_compare.md R170 to R172): the flags a comparison writes as arithmetic, and the one
handler shape of CMP, CPX and CPY.
-/

namespace Sys2Proof.Machine

/-! ## The flags a comparison writes -/

/-- A compare writes C, Z and N (R170 to R172). -/
theorem getFlag_compareFlags (f : Flag) (v m p : Byte) :
    getFlag f (compareFlags v m p) =
      match f with
      | .c => decide (m.toNat ≤ v.toNat)
      | .z => v == m
      | .n => (v - m).msb
      | f => getFlag f p := by
  cases f <;> simp [compareFlags]

/-- Bit 7 of the difference modulo 256, as arithmetic. -/
theorem msb_sub_eq_true_iff (v m : Byte) :
    (v - m).msb = true ↔ 128 ≤ (v.toNat + 256 - m.toNat) % 256 := by
  have hm := m.isLt
  rw [msb_eq_true_iff, BitVec.toNat_sub]
  omega

/-! ## CMP, CPX and CPY under `Execute` -/

/-- The three handlers for the register `g`: C, Z and N from comparing `g` with the operand. -/
def compareReg (g : Reg) (o : Operand) (r : State) : State :=
  (noteFetched o r).setP (compareFlags (r.reg g) (operandByte o r) r.p)

theorem handleCmp_eq_compareReg : handleCmp = compareReg .a := rfl
theorem handleCpx_eq_compareReg : handleCpx = compareReg .x := rfl
theorem handleCpy_eq_compareReg : handleCpy = compareReg .y := rfl

section

variable (g : Reg) (o : Operand) (r : State)

/-- The flags a compare leaves, read off `compareFlags`. -/
theorem flag_compareReg (f : Flag) :
    (compareReg g o r).flag f = getFlag f (compareFlags (r.reg g) (operandByte o r) r.p) := rfl

theorem compareReg_pc : (compareReg g o r).pc = r.pc := noteFetched_pc o r

/-- A compare changes three flags and no register, not even the one it compares. -/
theorem compareReg_frame : Frame [] [.c, .z, .n] [] r (compareReg g o r) := by
  refine (noteFetched_frame o r).trans (setP_frame fun f hf => ?_)
  rw [getFlag_compareFlags, noteFetched_p]
  cases f <;> simp at hf <;> rfl

end

/-- The claim about a compare of the register `g`. -/
theorem exec_compareReg {i : Instr} {s : State} {g : Reg}
    (hexec : exec i s = execute i.opcode i.operand (compareReg g i.operand) s) :
    ∃ t, exec i s = .next t ∧
      (t.flag .c = true ↔ (operandValue i.operand s).toNat ≤ (s.reg g).toNat) ∧
      (t.flag .z = true ↔ s.reg g = operandValue i.operand s) ∧
      (t.flag .n = true ↔
        128 ≤ ((s.reg g).toNat + 256 - (operandValue i.operand s).toNat) % 256) ∧
      t.pc = nextPc i s ∧ t.remaining = cost i s 0 ∧ Frame [] [.c, .z, .n] [] s t := by
  have hflag : ∀ f, (compareReg g i.operand (resolved i.opcode i.operand s)).flag f =
      getFlag f (compareFlags (s.reg g) (operandValue i.operand s) s.p) := fun f => by
    rw [flag_compareReg, reg_resolved, operandByte_resolved, resolved_p]
  refine ⟨_, exec_of_execute hexec, ?_, ?_, ?_, ?_, rfl,
    execute_frame _ (compareReg_frame g i.operand _)⟩
  · rw [State.flag_setRemaining, hflag, getFlag_compareFlags]
    exact decide_eq_true_iff
  · rw [State.flag_setRemaining, hflag, getFlag_compareFlags]
    exact beq_iff_eq
  · rw [State.flag_setRemaining, hflag, getFlag_compareFlags]
    exact msb_sub_eq_true_iff (s.reg g) (operandValue i.operand s)
  · rw [State.setRemaining_pc, compareReg_pc, resolved_pc_eq_nextPc]

end Sys2Proof.Machine

namespace Sys2Proof.Proofs

open Sys2Proof.Machine

/-- Settles O29: each of the three is `compareReg` of its register under `Execute`. The kernel alone
reads the rows, as for O22. -/
theorem comparesSetCZN : Obligations.ComparesSetCZN := by
  unfold Obligations.ComparesSetCZN
  refine ⟨by decide +kernel, by decide +kernel, by decide +kernel, fun i s r m hmem hr hm => ?_⟩
  subst hm
  have hcases : i.mnemonic = .cmp ∨ i.mnemonic = .cpx ∨ i.mnemonic = .cpy := by simpa using hmem
  rcases hcases with hi | hi | hi <;> rw [hi] at hr <;> subst hr
  · exact exec_compareReg (g := .a) (handleCmp_eq_compareReg ▸ exec_cmp s hi)
  · exact exec_compareReg (g := .x) (handleCpx_eq_compareReg ▸ exec_cpx s hi)
  · exact exec_compareReg (g := .y) (handleCpy_eq_compareReg ▸ exec_cpy s hi)

end Sys2Proof.Proofs
end

section
/-!
Conditional branches (spec/44_branch.md R180 to R188): the one handler shape of the eight, taken and
not taken, and what `Execute` (spec/30_encoding.md R90) makes of it.
-/

namespace Sys2Proof.Machine

/-! ## The eight handlers: one flag compared with one value -/

/-- The handler of a branch taken when the flag `f` has the value `v` (R180). -/
def branchOn (f : Flag) (v : Bool) (r : State) : State × Nat := branch (r.flag f == v) r

/-- R181, R184, R186 and R187 test for a clear flag. -/
theorem branchOn_false (f : Flag) : branchOn f false = fun r => branch (!r.flag f) r := by
  funext r
  rw [branchOn, beq_false]

/-- R182, R183, R185 and R188 test for a set flag. -/
theorem branchOn_true (f : Flag) : branchOn f true = fun r => branch (r.flag f) r := by
  funext r
  rw [branchOn, beq_true]

theorem handleBcc_eq_branchOn : handleBcc = branchOn .c false := (branchOn_false .c).symm
theorem handleBcs_eq_branchOn : handleBcs = branchOn .c true := (branchOn_true .c).symm
theorem handleBeq_eq_branchOn : handleBeq = branchOn .z true := (branchOn_true .z).symm
theorem handleBne_eq_branchOn : handleBne = branchOn .z false := (branchOn_false .z).symm
theorem handleBmi_eq_branchOn : handleBmi = branchOn .n true := (branchOn_true .n).symm
theorem handleBpl_eq_branchOn : handleBpl = branchOn .n false := (branchOn_false .n).symm
theorem handleBvc_eq_branchOn : handleBvc = branchOn .v false := (branchOn_false .v).symm
theorem handleBvs_eq_branchOn : handleBvs = branchOn .v true := (branchOn_true .v).symm

section

variable {f : Flag} {v : Bool} {r : State}

/-- A branch not taken does nothing and costs nothing (R180). -/
theorem branchOn_of_ne (h : r.flag f ≠ v) : branchOn f v r = (r, 0) := by
  rw [branchOn, beq_eq_false_iff_ne.mpr h]
  rfl

/-- A branch taken moves PC by the offset, for one cycle or for two (R180). -/
theorem branchOn_of_eq (h : r.flag f = v) :
    branchOn f v r =
      (r.setPc (r.pc + r.addrRel), if samePage (r.pc + r.addrRel) r.pc then 1 else 2) := by
  rw [branchOn, beq_iff_eq.mpr h]
  rfl

end

/-- PC has its own clauses: writing it is in every frame. -/
theorem setPc_frame {regs : List Reg} {flags : List Flag} {bytes : List Word} (s : State)
    (w : Word) : Frame regs flags bytes s (s.setPc w) where
  regs g _ := by cases g <;> rfl
  flags _ _ := rfl
  memory _ _ := rfl
  host := ⟨rfl, rfl, rfl⟩

/-! ## A Relative row under `Execute` -/

section

variable (op : Byte) (b : Byte) (s : State)

/-- In Relative mode the resolver leaves PC two bytes on (R81, R108). -/
theorem resolved_rel_pc : (resolved op (.rel b) s).pc = s.pc + 2 := by
  rw [resolved_pc, BitVec.add_assoc]
  rfl

/-- The target of a branch is the next instruction's address plus the signed offset modulo 2^16
(R108). -/
theorem resolved_rel_target : (resolved op (.rel b) s).pc + (resolved op (.rel b) s).addrRel =
    s.pc + 2 + sext16 b := by
  rw [resolved_rel_pc]
  rfl

/-- No index is added in Relative mode, so `c1` is 0 (R282). -/
theorem pageCycles_rel : pageCycles op (resolved op (.rel b) s) = 0 := by
  rw [pageCycles_resolved]
  rfl

end

/-- A Relative instruction whose handler makes no transaction reads its opcode and its operand byte
(R90, R108). -/
theorem instrAccesses_rel {i : Instr} {b : Byte} (s : State) (hop : i.operand = .rel b)
    (hacc : ∀ r, handlerAccesses i.mnemonic (.rel b) r = []) :
    instrAccesses i s =
      [.read s.pc (s.mem.read s.pc), .read (s.pc + 1) (s.mem.read (s.pc + 1))] := by
  rw [instrAccesses, hop, hacc]
  rfl

section

variable {i : Instr} {b : Byte} {s : State} {f : Flag} {v : Bool} (hop : i.operand = .rel b)
  (hbase : (descriptor i.opcode).baseCycles = 2)
  (hexec : exec i s = executeWith i.opcode i.operand (branchOn f v) s)

include hop hbase hexec

/-- Not taken: the next instruction at cost 2, and no other effect (R180). -/
theorem exec_branchOn_of_ne (h : s.flag f ≠ v) :
    ∃ t, exec i s = .next t ∧ Frame [] [] [] s t ∧ t.pc = s.pc + 2 ∧ t.remaining = 2 := by
  rw [hexec, executeWith_next, hop, pageCycles_rel, hbase, branchOn_of_ne (by rwa [flag_resolved])]
  exact ⟨_, rfl, (resolved_frame i.opcode (.rel b) s).trans (setRemaining_frame _ _),
    resolved_rel_pc i.opcode b s, rfl⟩

/-- Taken: the target at cost 3, or 4 in another page than the next instruction's, and no other
effect (R180). -/
theorem exec_branchOn_of_eq (h : s.flag f = v) :
    ∃ t, exec i s = .next t ∧ Frame [] [] [] s t ∧ t.pc = s.pc + 2 + sext16 b ∧
      t.remaining = if samePage t.pc (s.pc + 2) then 3 else 4 := by
  rw [hexec, executeWith_next, hop, pageCycles_rel, hbase, branchOn_of_eq (by rwa [flag_resolved]),
    resolved_rel_target, resolved_rel_pc]
  refine ⟨_, rfl, execute_frame _ (setPc_frame _ _), rfl, ?_⟩
  exact apply_ite (2 + ·) (samePage (s.pc + 2 + sext16 b) (s.pc + 2) = true) 1 2

/-- The claim about a branch taken when the flag `f` has the value `v`. -/
theorem exec_branchOn (hacc : ∀ r, handlerAccesses i.mnemonic (.rel b) r = []) :
    ∃ t, exec i s = .next t ∧ Frame [] [] [] s t ∧
      (s.flag f ≠ v → t.pc = s.pc + 2 ∧ t.remaining = 2) ∧
      (s.flag f = v →
        (t.pc.toNat : Int) = (((s.pc + 2).toNat : Int) + b.toInt) % 65536 ∧
        t.remaining = if t.pc.toNat / 256 = (s.pc + 2).toNat / 256 then 3 else 4) ∧
      instrAccesses i s =
        [.read s.pc (s.mem.read s.pc), .read (s.pc + 1) (s.mem.read (s.pc + 1))] := by
  have haccesses := instrAccesses_rel s hop hacc
  by_cases htaken : s.flag f = v
  · obtain ⟨t, ht, hframe, hpc, hcost⟩ := exec_branchOn_of_eq hop hbase hexec htaken
    have htarget : (t.pc.toNat : Int) = (((s.pc + 2).toNat : Int) + b.toInt) % 65536 := by
      rw [hpc, add_sext16_toNat]
    simp only [samePage_iff] at hcost
    exact ⟨t, ht, hframe, absurd htaken, fun _ => ⟨htarget, hcost⟩, haccesses⟩
  · obtain ⟨t, ht, hframe, hpc, hcost⟩ := exec_branchOn_of_ne hop hbase hexec htaken
    exact ⟨t, ht, hframe, fun _ => ⟨hpc, hcost⟩, (absurd · htaken), haccesses⟩

end

end Sys2Proof.Machine

namespace Sys2Proof.Proofs

open Sys2Proof.Machine

/-- Settles O30: each branch is `branchOn` of its flag and value under `Execute`. The kernel alone
reads the rows of the table, as for O22. -/
theorem branchesTestOneFlag : Obligations.BranchesTestOneFlag := by
  unfold Obligations.BranchesTestOneFlag
  refine ⟨by and_intros <;> decide +kernel, fun s b row hrow => ?_⟩
  simp only [List.mem_cons, List.not_mem_nil, or_false] at hrow
  rcases hrow with rfl | rfl | rfl | rfl | rfl | rfl | rfl | rfl
  · exact exec_branchOn (i := .bcc b) rfl rfl (handleBcc_eq_branchOn ▸ exec_bcc s rfl) fun _ => rfl
  · exact exec_branchOn (i := .bcs b) rfl rfl (handleBcs_eq_branchOn ▸ exec_bcs s rfl) fun _ => rfl
  · exact exec_branchOn (i := .beq b) rfl rfl (handleBeq_eq_branchOn ▸ exec_beq s rfl) fun _ => rfl
  · exact exec_branchOn (i := .bne b) rfl rfl (handleBne_eq_branchOn ▸ exec_bne s rfl) fun _ => rfl
  · exact exec_branchOn (i := .bmi b) rfl rfl (handleBmi_eq_branchOn ▸ exec_bmi s rfl) fun _ => rfl
  · exact exec_branchOn (i := .bpl b) rfl rfl (handleBpl_eq_branchOn ▸ exec_bpl s rfl) fun _ => rfl
  · exact exec_branchOn (i := .bvc b) rfl rfl (handleBvc_eq_branchOn ▸ exec_bvc s rfl) fun _ => rfl
  · exact exec_branchOn (i := .bvs b) rfl rfl (handleBvs_eq_branchOn ▸ exec_bvs s rfl) fun _ => rfl

end Sys2Proof.Proofs
end

section
/-!
The stack instructions (spec/45_stack.md R190 to R195): what the six handlers push, pull and copy,
each an Implied row under `Execute` (spec/30_encoding.md R90).
-/

namespace Sys2Proof.Machine

/-- A frame may name more than is written. -/
theorem Frame.mono {regs regs' : List Reg} {flags flags' : List Flag} {bytes bytes' : List Word}
    {s t : State} (h : Frame regs flags bytes s t) (hregs : regs ⊆ regs') (hflags : flags ⊆ flags')
    (hbytes : bytes ⊆ bytes') : Frame regs' flags' bytes' s t where
  regs g hg := h.regs g fun hmem => hg (hregs hmem)
  flags f hf := h.flags f fun hmem => hf (hflags hmem)
  memory a ha := h.memory a fun hmem => ha (hbytes hmem)
  host := h.host

/-! ## An Implied row under `Execute` -/

/-- In Implied mode the resolver leaves PC one byte on (R81, R96). -/
theorem resolved_imp_pc (op : Byte) (s : State) : (resolved op .imp s).pc = s.pc + 1 := by
  rw [resolved_pc]
  exact BitVec.add_zero (s.pc + 1)

/-- `Execute` of an Implied row: its handler after the opcode fetch, at the base cost (R90, R96). -/
theorem exec_implied {i : Instr} {s : State} {handler : State → State} {n : Nat}
    (hop : i.operand = .imp) (hbase : (descriptor i.opcode).baseCycles = n)
    (hexec : exec i s = execute i.opcode i.operand handler s) :
    exec i s = .next ((handler (resolved i.opcode .imp s)).setRemaining n) := by
  have hcost : cost i s 0 = n := by simp [cost, hop, pageCrossed, hbase]
  rw [exec_of_execute hexec, hcost, hop]

/-! ## PHA and PHP (R190, R191) -/

/-- The claim about an Implied row that pushes `v`. -/
theorem exec_push {i : Instr} {s : State} {handler : State → State} {v : Byte} {n : Nat}
    (hop : i.operand = .imp) (hbase : (descriptor i.opcode).baseCycles = n)
    (hexec : exec i s = execute i.opcode i.operand handler s)
    (hpush : handler (resolved i.opcode .imp s) = push v (resolved i.opcode .imp s)) :
    ∃ t, exec i s = .next t ∧ (s.mem.wf → t.mem.read (stackAddr s.sp) = v) ∧ t.sp = s.sp - 1 ∧
      t.p = s.p ∧ t.pc = s.pc + 1 ∧ t.remaining = n ∧ Frame [.sp] [] [stackAddr s.sp] s t := by
  have hnext := exec_implied hop hbase hexec
  rw [hpush] at hnext
  have hframe := push_frame v (resolved i.opcode .imp s)
  rw [resolved_sp] at hframe
  refine ⟨_, hnext, fun hwf => ?_, ?_, ?_, ?_, rfl, execute_frame n hframe⟩
  · rw [State.setRemaining_mem, push_mem, resolved_mem, resolved_sp, Memory.read_write_same hwf]
  · rw [State.setRemaining_sp, push_sp, resolved_sp]
  · rw [State.setRemaining_p, push_p, resolved_p]
  · rw [State.setRemaining_pc, push_pc, resolved_imp_pc]

/-! ## PLA and PLP (R192, R193) -/

/-- The opcode fetch does not change what `Pull()` returns. -/
theorem pullByte_resolved (op : Byte) (o : Operand) (s : State) :
    pullByte (resolved op o s) = s.mem.read (stackAddr (s.sp + 1)) := by
  rw [pullByte, resolved_mem, resolved_sp]

/-- PLA's effect is the shared load of A, after the pull (R192). -/
theorem handlePla_eq_loadReg (r : State) :
    handlePla r = loadReg .a (pullByte r) (pullSp r) := rfl

/-- The flags PLA leaves: Z and N from the pulled byte (R192). -/
theorem flag_handlePla (r : State) (f : Flag) :
    (handlePla r).flag f =
      if f = .n then (pullByte r).msb else if f = .z then pullByte r == 0x00#8 else r.flag f :=
  State.flag_setZN _ f (pullByte r)

@[simp] theorem handlePla_a (r : State) : (handlePla r).a = pullByte r := rfl
@[simp] theorem handlePla_sp (r : State) : (handlePla r).sp = r.sp + 1 := rfl
@[simp] theorem handlePla_pc (r : State) : (handlePla r).pc = r.pc := rfl

theorem handlePla_frame (r : State) : Frame [.a, .sp] [.z, .n] [] r (handlePla r) := by
  have hpull := (pullSp_frame r).mono (regs' := [.a, .sp]) (flags' := [.z, .n]) (by simp) (by simp)
    (List.Subset.refl [])
  have hload := (loadReg_loadsReg .a (pullByte r) (pullSp r)).frame.mono (regs' := [.a, .sp])
    (by simp) (List.Subset.refl _) (List.Subset.refl [])
  rw [handlePla_eq_loadReg]
  exact hpull.trans hload

/-- The flags PLP leaves: those of the pulled byte, but B and U (R193). -/
theorem flag_handlePlp (r : State) (f : Flag) :
    (handlePlp r).flag f =
      if f = .b then false else if f = .u then true else getFlag f (pullByte r) :=
  getFlag_pulledP f (pullByte r)

@[simp] theorem handlePlp_sp (r : State) : (handlePlp r).sp = r.sp + 1 := rfl
@[simp] theorem handlePlp_p (r : State) : (handlePlp r).p = pulledP (pullByte r) := rfl
@[simp] theorem handlePlp_pc (r : State) : (handlePlp r).pc = r.pc := rfl

/-- PLP writes the whole status byte: its frame names the eight flags. -/
theorem handlePlp_frame (r : State) :
    Frame [.sp] [.c, .z, .i, .d, .b, .u, .v, .n] [] r (handlePlp r) := by
  have hpull := (pullSp_frame r).mono (flags' := [.c, .z, .i, .d, .b, .u, .v, .n])
    (List.Subset.refl _) (by simp) (List.Subset.refl [])
  refine hpull.trans (setP_frame fun f hf => ?_)
  cases f <;> simp at hf

section

variable (s : State) {v : Byte} (hv : v = s.mem.read (stackAddr (s.sp + 1)))

include hv

/-- The claim about PLA. -/
theorem exec_pla_of_read :
    ∃ t, exec .pla s = .next t ∧ t.a = v ∧ t.sp = s.sp + 1 ∧
      (t.flag .z = true ↔ v = 0x00#8) ∧ (t.flag .n = true ↔ 128 ≤ v.toNat) ∧
      t.pc = s.pc + 1 ∧ t.remaining = 4 ∧ Frame [.a, .sp] [.z, .n] [] s t := by
  have hnext := exec_implied (i := .pla) rfl rfl (exec_pla s rfl)
  have hpulled : pullByte (resolved Instr.pla.opcode .imp s) = v :=
    (pullByte_resolved _ _ s).trans hv.symm
  refine ⟨_, hnext, ?_, ?_, ?_, ?_, ?_, rfl, execute_frame 4 (handlePla_frame _)⟩
  · rw [State.setRemaining_a, handlePla_a, hpulled]
  · rw [State.setRemaining_sp, handlePla_sp, resolved_sp]
  · rw [State.flag_setRemaining, flag_handlePla, hpulled]
    exact beq_iff_eq
  · rw [State.flag_setRemaining, flag_handlePla, hpulled]
    exact msb_eq_true_iff v
  · rw [State.setRemaining_pc, handlePla_pc, resolved_imp_pc]

/-- The claim about PLP. -/
theorem exec_plp_of_read :
    ∃ t, exec .plp s = .next t ∧ t.sp = s.sp + 1 ∧ t.p = (v &&& 0xEF#8) ||| 0x20#8 ∧
      t.flag .b = false ∧ t.flag .u = true ∧
      (∀ f, f ≠ .b → f ≠ .u → t.flag f = getFlag f v) ∧
      t.pc = s.pc + 1 ∧ t.remaining = 4 ∧
      Frame [.sp] [.c, .z, .i, .d, .b, .u, .v, .n] [] s t := by
  have hnext := exec_implied (i := .plp) rfl rfl (exec_plp s rfl)
  have hpulled : pullByte (resolved Instr.plp.opcode .imp s) = v :=
    (pullByte_resolved _ _ s).trans hv.symm
  refine ⟨_, hnext, ?_, ?_, ?_, ?_, fun f hb hu => ?_, ?_, rfl,
    execute_frame 4 (handlePlp_frame _)⟩
  · rw [State.setRemaining_sp, handlePlp_sp, resolved_sp]
  · rw [State.setRemaining_p, handlePlp_p, hpulled, pulledP]
  · rw [State.flag_setRemaining, flag_handlePlp, if_pos rfl]
  · rw [State.flag_setRemaining, flag_handlePlp, if_neg (by decide), if_pos rfl]
  · rw [State.flag_setRemaining, flag_handlePlp, if_neg hb, if_neg hu, hpulled]
  · rw [State.setRemaining_pc, handlePlp_pc, resolved_imp_pc]

end

/-! ## TSX and TXS (R194, R195) -/

/-- TSX is a transfer with flags, as TAX is (R194). -/
theorem handleTsx_eq_transferReg : handleTsx = transferReg .sp .x := rfl

/-- TXS writes SP and nothing else (R195). -/
theorem handleTxs_frame (r : State) : Frame [.sp] [] [] r (handleTxs r) := setReg_frame .sp r.x r

/-- The claim about TXS. -/
theorem exec_txs_copies (s : State) :
    ∃ t, exec .txs s = .next t ∧ t.sp = s.x ∧ t.p = s.p ∧ t.pc = s.pc + 1 ∧ t.remaining = 2 ∧
      Frame [.sp] [] [] s t := by
  have hnext := exec_implied (i := .txs) rfl rfl (exec_txs s rfl)
  refine ⟨_, hnext, ?_, ?_, ?_, rfl, execute_frame 2 (handleTxs_frame _)⟩
  · rw [State.setRemaining_sp, handleTxs, State.setSp_sp, resolved_x]
  · rw [State.setRemaining_p, handleTxs, State.setSp_p, resolved_p]
  · rw [State.setRemaining_pc, handleTxs, State.setSp_pc, resolved_imp_pc]

end Sys2Proof.Machine

namespace Sys2Proof.Proofs

open Sys2Proof.Machine

/-- Settles O31: PHA and PHP are one push under `Execute`, of A and of the software copy of P. -/
theorem phaPhpPush : Obligations.PhaPhpPush := by
  unfold Obligations.PhaPhpPush
  refine ⟨by decide, by decide, fun s => ⟨?_, ?_⟩⟩
  · exact exec_push (i := .pha) (v := s.a) rfl rfl (exec_pha s rfl)
      (by rw [handlePha, resolved_a])
  · exact exec_push (i := .php) (v := softwarePushedP s.p) rfl rfl (exec_php s rfl)
      (by rw [handlePhp, resolved_p])

/-- Settles O32: PLA is a pull and a load of A, PLP a pull and a new status byte. -/
theorem plaPlpPull : Obligations.PlaPlpPull := by
  unfold Obligations.PlaPlpPull
  exact ⟨by decide, by decide, fun s _ hv => ⟨exec_pla_of_read s hv, exec_plp_of_read s hv⟩⟩

/-- Settles O33: TSX is `transferReg` from SP to X under `Execute`; TXS only writes SP. The kernel
alone reads the rows, as for O22. -/
theorem tsxTxsCopy : Obligations.TsxTxsCopy := by
  unfold Obligations.TsxTxsCopy
  refine ⟨by decide +kernel, by decide +kernel, fun s => ⟨?_, exec_txs_copies s⟩⟩
  exact exec_transferReg (i := .tsx) (q := .sp) (g := .x) rfl rfl (fun _ => rfl)
    (handleTsx_eq_transferReg ▸ exec_tsx s rfl)

end Sys2Proof.Proofs
end

section
/-!
Jumps and subroutines (spec/46_jump_subroutine.md R200 to R203): two pushes and two pulls as single
operations, and the four handlers that use them or only move PC.
-/

namespace Sys2Proof.Machine

/-! ## A word pushed and a word pulled (R60 to R62, R201 to R203) -/

/-- Two pushes move SP down by two (R62). -/
@[simp] theorem pushWord_sp (w : Word) (s : State) : (pushWord w s).sp = s.sp - 2 :=
  sub_sub s.sp 1 1

/-- Two pushes change SP and the two bytes at and below it only (R60). -/
theorem pushWord_frame (w : Word) (s : State) :
    Frame [.sp] [] [stackAddr s.sp, stackAddr (s.sp - 1)] s (pushWord w s) := by
  have hhi := push_frame (hiByte w) s
  have hlo := push_frame (loByte w) (push (hiByte w) s)
  rw [push_sp] at hlo
  exact (hhi.mono (List.Subset.refl _) (List.Subset.refl _) (by simp)).trans
    (hlo.mono (List.Subset.refl _) (List.Subset.refl _) (by simp))

/-- The second push leaves the high byte of the word where the first put it: SP and SP - 1 address
two bytes even where SP wraps (R60, R62). -/
theorem read_pushWord_hi (w : Word) {s : State} (hm : s.mem.wf) :
    (pushWord w s).mem.read (stackAddr s.sp) = hiByte w := by
  have hne : stackAddr s.sp ≠ stackAddr (s.sp - 1) := fun h => by
    have hsp := stackAddr_inj h
    bv_omega
  rw [pushWord, push_mem, push_sp, Memory.read_write_other _ _ hne, read_push_stackAddr _ hm]

/-- The low byte of a pushed word is below its high byte (R60). -/
theorem read_pushWord_lo (w : Word) {s : State} (hm : s.mem.wf) :
    (pushWord w s).mem.read (stackAddr (s.sp - 1)) = loByte w :=
  read_push_stackAddr (loByte w) (s := push (hiByte w) s) (Memory.wf_write hm _ _)

/-- Two pulls move SP up by two (R62). -/
theorem pullSp_pullSp_sp (s : State) : (pullSp (pullSp s)).sp = s.sp + 2 :=
  BitVec.add_assoc s.sp 1 1

/-- Two pulls give the byte above SP as the low one and the next as the high one (R202, R203). -/
theorem pullWord_toNat (s : State) :
    (pullWord s).toNat = (s.mem.read (stackAddr (s.sp + 1))).toNat +
      256 * (s.mem.read (stackAddr (s.sp + 2))).toNat := by
  rw [pullWord, wordOf_toNat, pullByte_eq_read_pullSp (pullSp s), pullSp_pullSp_sp, pullSp_mem,
    pullByte]
  omega

/-- The PC that two pulls load is no part of a frame: they change SP only (R61). -/
theorem pullSp_pullSp_setPc_frame (w : Word) (s : State) :
    Frame [.sp] [] [] s ((pullSp (pullSp s)).setPc w) :=
  ((pullSp_frame s).trans (pullSp_frame (pullSp s))).trans (setPc_frame _ w)

/-! ## Rows under `Execute` that charge no page crossing -/

/-- `Execute` of a documented row outside R89's list: its handler, at the base cost (R90, R282). -/
theorem exec_of_not_penalized {i : Instr} {s : State} {handler : State → State}
    (hdoc : i.mnemonic ≠ .undocumented)
    (hrow : i.mnemonic ∉ [Mnemonic.adc, .and, .cmp, .eor, .lda, .ldx, .ldy, .ora, .sbc])
    (hexec : exec i s = execute i.opcode i.operand handler s) :
    exec i s = .next ((handler (resolved i.opcode i.operand s)).setRemaining
      (descriptor i.opcode).baseCycles) := by
  rw [exec_of_execute hexec, cost_of_pagePenalty_false s (pagePenalty_eq_false hdoc hrow)]

/-- In Absolute mode the address of the instruction's last byte is one below PC (R81, R201). -/
theorem resolved_abs_pc_sub_one (op : Byte) (w : Word) (s : State) :
    (resolved op (.abs w) s).pc - 1 = s.pc + 2 := by
  rw [resolved_pc, Operand.mode, Mode.width]
  bv_omega

/-- An Absolute instruction reads its opcode and its two operand bytes before its handler runs
(R90, R102). -/
theorem instrAccesses_abs {i : Instr} {w : Word} (s : State) (hop : i.operand = .abs w) :
    instrAccesses i s =
      [.read s.pc (s.mem.read s.pc), .read (s.pc + 1) (s.mem.read (s.pc + 1)),
        .read (s.pc + 2) (s.mem.read (s.pc + 2))] ++
      handlerAccesses i.mnemonic (.abs w) (resolved i.opcode (.abs w) s) := by
  have hpc : s.pc + 1 + 1 = s.pc + 2 := BitVec.add_assoc s.pc 1 1
  rw [instrAccesses, hop, ← hpc]
  rfl

/-! ## JMP (R200) -/

/-- Indirect mode's address is the pointer's content, read inside the pointer's page (R105). -/
theorem effAddr_ind (w : Word) (s : State) : effAddr (.ind w) s = s.mem.readPointer w := rfl

/-- JMP's claim for both forms: PC becomes the effective address at the base cost. -/
theorem exec_jmp_effAddr {i : Instr} (s : State) (hi : i.mnemonic = .jmp) :
    ∃ t, exec i s = .next t ∧ t.pc = effAddr i.operand s ∧
      t.remaining = (descriptor i.opcode).baseCycles ∧ Frame [] [] [] s t := by
  have hmode : i.operand.mode ≠ .imm := fun h => by
    simpa [hi] using mnemonic_of_mode_imm h
  refine ⟨_, exec_of_not_penalized (by simp [hi]) (by simp [hi]) (exec_jmp s hi), ?_, rfl,
    execute_frame _ (setPc_frame _ _)⟩
  rw [State.setRemaining_pc, handleJmp, State.setPc_pc, resolved_addrAbs,
    effAddr_fetchOpcode _ _ _ hmode]

/-! ## JSR (R201) -/

/-- `Execute` of JSR: the address of its last byte pushed, then the jump. -/
theorem exec_jsr_pushWord (w : Word) (s : State) :
    exec (.jsr w) s =
      .next (((pushWord (s.pc + 2) (resolved 0x20#8 (.abs w) s)).setPc w).setRemaining 6) := by
  have hpush : handleJsr (resolved 0x20#8 (.abs w) s) =
      (pushWord (s.pc + 2) (resolved 0x20#8 (.abs w) s)).setPc w := by
    rw [handleJsr, resolved_abs_pc_sub_one]
    rfl
  rw [← hpush]
  exact exec_of_not_penalized (i := .jsr w) nofun (by simp [Instr.mnemonic]) (exec_jsr s rfl)

/-- The transactions of JSR: the instruction's three bytes, then the two writes (R201). -/
theorem instrAccesses_jsr (w : Word) (s : State) :
    instrAccesses (.jsr w) s =
      [.read s.pc (s.mem.read s.pc), .read (s.pc + 1) (s.mem.read (s.pc + 1)),
        .read (s.pc + 2) (s.mem.read (s.pc + 2)), .write (stackAddr s.sp) (hiByte (s.pc + 2)),
        .write (stackAddr (s.sp - 1)) (loByte (s.pc + 2))] := by
  have hpush : handlerAccesses .jsr (.abs w) (resolved 0x20#8 (.abs w) s) =
      pushWordAccesses (s.pc + 2) (resolved 0x20#8 (.abs w) s) := by
    rw [handlerAccesses, resolved_abs_pc_sub_one]
  rw [instrAccesses_abs s rfl]
  exact congrArg (_ ++ ·) hpush

/-! ## RTS (R202) -/

/-- RTS pulls one word and moves PC one past it. -/
theorem exec_rts_pullWord (s : State) : ∃ t, exec .rts s = .next t ∧
    t.pc.toNat = ((s.mem.read (stackAddr (s.sp + 1))).toNat +
      256 * (s.mem.read (stackAddr (s.sp + 2))).toNat + 1) % 65536 ∧
    t.sp = s.sp + 2 ∧ t.remaining = 6 ∧ Frame [.sp] [] [] s t := by
  have hnext := exec_implied (i := .rts) rfl rfl (exec_rts s rfl)
  refine ⟨_, hnext, ?_, ?_, rfl, execute_frame 6 (pullSp_pullSp_setPc_frame _ _)⟩
  · rw [State.setRemaining_pc, handleRts, State.setPc_pc, BitVec.toNat_add, pullWord_toNat,
      resolved_mem, resolved_sp]
    rfl
  · rw [State.setRemaining_sp, handleRts, State.setPc_sp, pullSp_pullSp_sp, resolved_sp]

/-! ## RTI (R203) -/

/-- RTI is PLP and then two pulls into PC (R193, R203). -/
theorem handleRti_eq_handlePlp (r : State) :
    handleRti r = (pullSp (pullSp (handlePlp r))).setPc (pullWord (handlePlp r)) := rfl

@[simp] theorem handlePlp_mem (r : State) : (handlePlp r).mem = r.mem := rfl

/-- RTI has the frame of PLP: its two further pulls change SP and PC only. -/
theorem handleRti_frame (r : State) :
    Frame [.sp] [.c, .z, .i, .d, .b, .u, .v, .n] [] r (handleRti r) := by
  have hpull := pullSp_pullSp_setPc_frame (pullWord (handlePlp r)) (handlePlp r)
  rw [handleRti_eq_handlePlp]
  exact (handlePlp_frame r).trans (hpull.mono (List.Subset.refl _) (List.nil_subset _)
    (List.Subset.refl _))

/-- The status byte RTI leaves is PLP's (R193, R203). -/
theorem handleRti_p (r : State) : (handleRti r).p = pulledP (pullByte r) := rfl

/-- RTI pulls three bytes (R203). -/
theorem handleRti_sp (r : State) : (handleRti r).sp = r.sp + 3 := by
  rw [handleRti_eq_handlePlp, State.setPc_sp, pullSp_pullSp_sp, handlePlp_sp, BitVec.add_assoc]
  rfl

/-- The PC that RTI loads is the second and the third byte it pulls, low byte first (R203). -/
theorem handleRti_pc_toNat (r : State) :
    (handleRti r).pc.toNat = (r.mem.read (stackAddr (r.sp + 2))).toNat +
      256 * (r.mem.read (stackAddr (r.sp + 3))).toNat := by
  have hlo : (handlePlp r).sp + 1 = r.sp + 2 := BitVec.add_assoc r.sp 1 1
  have hhi : (handlePlp r).sp + 2 = r.sp + 3 := BitVec.add_assoc r.sp 1 2
  rw [handleRti_eq_handlePlp, State.setPc_pc, pullWord_toNat, handlePlp_mem, hlo, hhi]

/-- RTI's claim: PLP's status byte, and PC from the two bytes above it. -/
theorem exec_rti_of_read (s : State) {v : Byte} (hv : v = s.mem.read (stackAddr (s.sp + 1))) :
    ∃ t, exec .rti s = .next t ∧
      t.p = (v &&& 0xEF#8) ||| 0x20#8 ∧ (∀ f, f ≠ .b → f ≠ .u → t.flag f = getFlag f v) ∧
      t.pc.toNat = (s.mem.read (stackAddr (s.sp + 2))).toNat +
        256 * (s.mem.read (stackAddr (s.sp + 3))).toNat ∧
      t.sp = s.sp + 3 ∧ t.remaining = 6 ∧
      Frame [.sp] [.c, .z, .i, .d, .b, .u, .v, .n] [] s t := by
  have hnext := exec_implied (i := .rti) rfl rfl (exec_rti s rfl)
  have hp : (handleRti (resolved Instr.rti.opcode .imp s)).p = pulledP v := by
    rw [handleRti_p, pullByte_resolved, hv]
  refine ⟨_, hnext, hp, fun f hb hu => ?_, ?_, ?_, rfl, execute_frame 6 (handleRti_frame _)⟩
  · rw [State.flag_setRemaining, State.flag, hp, getFlag_pulledP, if_neg hb, if_neg hu]
  · rw [State.setRemaining_pc, handleRti_pc_toNat, resolved_mem, resolved_sp]
  · rw [State.setRemaining_sp, handleRti_sp, resolved_sp]

end Sys2Proof.Machine

namespace Sys2Proof.Proofs

open Sys2Proof.Machine

/-- Settles O34: both forms load the effective address, which is the operand itself or the pointer's
content. -/
theorem jmpLoadsPc : Obligations.JmpLoadsPc := by
  unfold Obligations.JmpLoadsPc
  refine ⟨by decide, fun w s => ⟨?_, ?_⟩⟩
  · obtain ⟨t, ht, hpc, hcost, hframe⟩ := exec_jmp_effAddr (i := .jmpAbs w) s rfl
    exact ⟨t, ht, hpc, hcost, hframe, rfl⟩
  · obtain ⟨t, ht, hpc, hcost, hframe⟩ := exec_jmp_effAddr (i := .jmpInd w) s rfl
    refine ⟨t, ht, ?_, hcost, hframe⟩
    rw [hpc, Instr.operand, effAddr_ind, Memory.readPointer_toNat]

/-- Settles O35: JSR is one `pushWord` of its last byte's address and a jump; what the stack then
holds are the two read lemmas of `pushWord`. -/
theorem jsrPushesAndJumps : Obligations.JsrPushesAndJumps := by
  unfold Obligations.JsrPushesAndJumps
  refine ⟨by decide, ?_⟩
  rintro w _ s rfl
  have hframe := pushWord_frame (s.pc + 2) (resolved 0x20#8 (.abs w) s)
  have hhi := read_pushWord_hi (s.pc + 2) (s := resolved 0x20#8 (.abs w) s)
  have hlo := read_pushWord_lo (s.pc + 2) (s := resolved 0x20#8 (.abs w) s)
  rw [resolved_sp] at hframe
  rw [resolved_mem, resolved_sp] at hhi hlo
  refine ⟨_, exec_jsr_pushWord w s, rfl, ?_, rfl, fun hwf => ⟨?_, ?_⟩,
    execute_frame 6 (hframe.trans (setPc_frame _ w)), instrAccesses_jsr w s⟩
  · rw [State.setRemaining_sp, State.setPc_sp, pushWord_sp, resolved_sp]
  · rw [State.setRemaining_mem, State.setPc_mem, hhi hwf, hiByte_toNat]
  · rw [State.setRemaining_mem, State.setPc_mem, hlo hwf, loByte_toNat]

/-- Settles O36: RTS pulls the word and adds one to it. -/
theorem rtsPullsAndResumes : Obligations.RtsPullsAndResumes := by
  unfold Obligations.RtsPullsAndResumes
  exact ⟨by decide, exec_rts_pullWord⟩

/-- Settles O37: RTI is PLP followed by the pull of a word into PC. -/
theorem rtiRestoresPAndPc : Obligations.RtiRestoresPAndPc := by
  unfold Obligations.RtiRestoresPAndPc
  exact ⟨by decide, fun s _ hv => exec_rti_of_read s hv⟩

end Sys2Proof.Proofs
end

section
/-!
The flag instructions (spec/47_flag_ops.md R210 to R216): seven Implied rows under `Execute`
(spec/30_encoding.md R90), each one `set_flag` (spec/10_state.md R36).
-/

namespace Sys2Proof.Machine

/-- `set_flag` changes its flag and nothing else (R36). -/
theorem setFlag_frame {regs : List Reg} {bytes : List Word} (f : Flag) (v : Bool) (s : State) :
    Frame regs [f] bytes s (s.setFlag f v) :=
  setP_frame fun g hg => by rw [getFlag_setFlag, if_neg (List.ne_of_not_mem_cons hg)]

/-- The claim about an Implied row of two cycles that gives the flag `f` the value `v`. -/
theorem exec_setFlag {i : Instr} {s : State} {f : Flag} {v : Bool} (hop : i.operand = .imp)
    (hbase : (descriptor i.opcode).baseCycles = 2)
    (hexec : exec i s = execute i.opcode i.operand (State.setFlag · f v) s)
    (hacc : ∀ r, handlerAccesses i.mnemonic .imp r = []) :
    ∃ t, exec i s = .next t ∧ t.flag f = v ∧ t.pc = s.pc + 1 ∧ t.remaining = 2 ∧
      Frame [] [f] [] s t ∧ instrAccesses i s = [.read s.pc (s.mem.read s.pc)] := by
  refine ⟨_, exec_implied hop hbase hexec, ?_, ?_, rfl, execute_frame 2 (setFlag_frame f v _),
    instrAccesses_implied s hop hacc⟩
  · rw [State.flag_setRemaining, State.flag_setFlag, if_pos rfl]
  · rw [State.setRemaining_pc, State.setFlag_pc, resolved_imp_pc]

end Sys2Proof.Machine

namespace Sys2Proof.Proofs

open Sys2Proof.Machine

/-- Settles O39: each of the seven handlers is one `set_flag` under `Execute`. The kernel alone
reads the rows of the table, as for O22. -/
theorem flagInstructions : Obligations.FlagInstructions := by
  unfold Obligations.FlagInstructions
  refine ⟨by and_intros <;> decide +kernel, fun s row hrow => ?_⟩
  simp only [List.mem_cons, List.not_mem_nil, or_false] at hrow
  rcases hrow with rfl | rfl | rfl | rfl | rfl | rfl | rfl
  · exact exec_setFlag (i := .clc) rfl rfl (exec_clc s rfl) fun _ => rfl
  · exact exec_setFlag (i := .cld) rfl rfl (exec_cld s rfl) fun _ => rfl
  · exact exec_setFlag (i := .cli) rfl rfl (exec_cli s rfl) fun _ => rfl
  · exact exec_setFlag (i := .clv) rfl rfl (exec_clv s rfl) fun _ => rfl
  · exact exec_setFlag (i := .sec) rfl rfl (exec_sec s rfl) fun _ => rfl
  · exact exec_setFlag (i := .sed) rfl rfl (exec_sed s rfl) fun _ => rfl
  · exact exec_setFlag (i := .sei) rfl rfl (exec_sei s rfl) fun _ => rfl

end Sys2Proof.Proofs
end

section
/-!
Decoding and encoding (spec/30_encoding.md sections 1 to 3): the operand that two bytes make in each
mode, the instruction the decoder selects for each opcode byte, the round trip in both directions, and
the step at an instruction boundary.
-/

namespace Sys2Proof

/-! ## The operand a mode makes of the bytes after the opcode (R80, R82) -/

/-- The operand of a mode, from the two bytes after the opcode: it uses the first `Mode.width`. -/
def Mode.operandOf (m : Mode) (lo hi : Byte) : Operand :=
  match m with
  | .imp => .imp
  | .acc => .acc
  | .imm => .imm lo
  | .zp0 => .zp0 lo
  | .zpx => .zpx lo
  | .zpy => .zpy lo
  | .abs => .abs (wordOf hi lo)
  | .abx => .abx (wordOf hi lo)
  | .aby => .aby (wordOf hi lo)
  | .ind => .ind (wordOf hi lo)
  | .izx => .izx lo
  | .izy => .izy lo
  | .rel => .rel lo

theorem Mode.width_le_two (m : Mode) : m.width ≤ 2 := by
  cases m <;> decide

/-- The operand's bytes are the first `width` of the two, in their order (R82). -/
theorem Mode.bytes_operandOf (m : Mode) (lo hi : Byte) :
    (m.operandOf lo hi).bytes = [lo, hi].take m.width := by
  cases m <;> simp [Mode.operandOf, Operand.bytes, Mode.width]

/-- Every operand is what its mode makes of some two bytes (R82). -/
theorem Operand.exists_operandOf (o : Operand) : ∃ lo hi, o = o.mode.operandOf lo hi := by
  cases o
  case imp | acc => exact ⟨0, 0, rfl⟩
  case imm b | zp0 b | zpx b | zpy b | izx b | izy b | rel b => exact ⟨b, 0, rfl⟩
  case abs w | abx w | aby w | ind w =>
    refine ⟨loByte w, hiByte w, ?_⟩
    rw [Operand.mode, Mode.operandOf, wordOf_hiByte_loByte]

/-! ## The instruction an opcode byte selects (R83 to R86) -/

/-- A well-formed instruction's opcode has the row of its own mnemonic and mode in the table (R84 to
R86). -/
theorem descriptor_row {i : Instr} (h : i.WellFormed) :
    (descriptor i.opcode).mnemonic = i.mnemonic ∧ (descriptor i.opcode).mode = i.operand.mode := by
  cases i
  case undocumented op =>
    have hrow : descriptor (Instr.undocumented op).opcode = illegalDescriptor :=
      Laws.TableRow.undocumented_descriptor h
    rw [hrow]
    exact ⟨rfl, rfl⟩
  all_goals exact ⟨rfl, rfl⟩

/-- Every descriptor of the table costs at least 2 cycles, and even with both penalties its mode and
its mnemonic allow no more than 7 (R88, R282). -/
def Descriptor.CostBounded (d : Descriptor) : Prop :=
  2 ≤ d.baseCycles ∧
    d.baseCycles + (if d.pagePenalty then 1 else 0) + (if d.mode = .rel then 2 else 0) ≤ 7

theorem costBounded_of_mem_row : ∀ row ∈ opcodeRows, ∀ d ∈ row, d.CostBounded := by
  unfold Descriptor.CostBounded
  decide

theorem descriptor_costBounded (op : Byte) : (descriptor op).CostBounded := by
  obtain ⟨row, hrow, hd⟩ := List.mem_flatten.mp (descriptor_mem_opcodeTable op)
  exact costBounded_of_mem_row row hrow _ hd

/-- What the decoder's instruction has whatever the bytes are. -/
structure SelectedBy (op lo hi : Byte) (i : Instr) : Prop where
  opcode : i.opcode = op
  operand : i.operand = i.operand.mode.operandOf lo hi
  wellFormed : i.WellFormed

/-- One case per arm of the decoder. In the last the byte differs from the 151 assigned ones, which
leaves R86's 105. -/
theorem decodeInstr_selectedBy (op lo hi : Byte) : SelectedBy op lo hi (decodeInstr op lo hi) := by
  have hlt := op.isLt
  have hundocumented : op.toNat ∈ undocumentedOpcodes.map BitVec.toNat → op ∈ undocumentedOpcodes :=
    (List.mem_map_of_injective fun _ _ => BitVec.eq_of_toNat_eq).mp
  unfold decodeInstr
  split
  case h_152 =>
    refine ⟨rfl, rfl, hundocumented ?_⟩
    clear hundocumented
    generalize op.toNat = k at *
    simp only [undocumentedOpcodes, List.map_append, List.map_cons, List.map_nil, List.mem_append,
      List.mem_cons, BitVec.reduceToNat]
    grind
  all_goals exact ⟨BitVec.eq_of_toNat_eq (Eq.symm ‹_›), rfl, trivial⟩

section

variable (op lo hi : Byte)

theorem opcode_decodeInstr : (decodeInstr op lo hi).opcode = op :=
  (decodeInstr_selectedBy op lo hi).opcode

theorem wellFormed_decodeInstr : (decodeInstr op lo hi).WellFormed :=
  (decodeInstr_selectedBy op lo hi).wellFormed

/-- The decoder agrees with the table's mnemonic (R84). -/
theorem mnemonic_decodeInstr : (decodeInstr op lo hi).mnemonic = (descriptor op).mnemonic := by
  obtain ⟨hmnemonic, -⟩ := descriptor_row (wellFormed_decodeInstr op lo hi)
  rw [← hmnemonic, opcode_decodeInstr]

/-- The decoder agrees with the table's mode (R84). -/
theorem mode_decodeInstr : (decodeInstr op lo hi).operand.mode = (descriptor op).mode := by
  obtain ⟨-, hmode⟩ := descriptor_row (wellFormed_decodeInstr op lo hi)
  rw [← hmode, opcode_decodeInstr]

/-- The decoder's operand is what the table's mode makes of the bytes (R80, R82). -/
theorem operand_decodeInstr :
    (decodeInstr op lo hi).operand = (descriptor op).mode.operandOf lo hi := by
  rw [(decodeInstr_selectedBy op lo hi).operand, mode_decodeInstr]

/-- The placeholder of R86 stands exactly at the undocumented bytes. -/
theorem descriptor_undocumented_iff :
    (descriptor op).mnemonic = .undocumented ↔ op ∈ undocumentedOpcodes := by
  constructor
  · intro h
    have hwf := (wellFormed_iff _).mp (wellFormed_decodeInstr op 0 0)
    rw [mnemonic_decodeInstr, opcode_decodeInstr] at hwf
    exact hwf h
  · intro h
    rw [Laws.TableRow.undocumented_descriptor h]
    rfl

end

/-- An instruction with the mnemonic `???` is its opcode byte alone (R86). -/
theorem eq_undocumented {i : Instr} (h : i.mnemonic = .undocumented) :
    i = .undocumented i.opcode := by
  cases i
  case undocumented => rfl
  all_goals cases h

/-- An undocumented byte selects itself, whatever follows it (R86). -/
theorem decodeInstr_undocumented {op : Byte} (h : op ∈ undocumentedOpcodes) (lo hi : Byte) :
    decodeInstr op lo hi = .undocumented op := by
  have hm : (decodeInstr op lo hi).mnemonic = .undocumented :=
    (mnemonic_decodeInstr op lo hi).trans ((descriptor_undocumented_iff op).mpr h)
  rw [eq_undocumented hm, opcode_decodeInstr]

/-- A well-formed instruction is selected by its own opcode and operand bytes (R80, R82, R85). -/
theorem decodeInstr_opcode {i : Instr} (h : i.WellFormed) {lo hi : Byte}
    (hop : i.operand = i.operand.mode.operandOf lo hi) : decodeInstr i.opcode lo hi = i := by
  by_cases hm : i.mnemonic = .undocumented
  · rw [eq_undocumented hm]
    exact decodeInstr_undocumented ((wellFormed_iff i).mp h hm) lo hi
  · unfold decodeInstr
    generalize hk : i.opcode.toNat = k
    cases i
    case undocumented => exact absurd rfl hm
    all_goals
      cases hop
      simp only [Instr.opcode, BitVec.reduceToNat] at hk
      subst hk
      rfl

/-! ## The decoder on a list of bytes (R80 to R83, R91) -/

/-- Two pairs of bytes that make one operand select one instruction. -/
theorem decodeInstr_congr {op lo hi lo' hi' : Byte}
    (h : (descriptor op).mode.operandOf lo hi = (descriptor op).mode.operandOf lo' hi') :
    decodeInstr op lo hi = decodeInstr op lo' hi' := by
  have hop : (decodeInstr op lo' hi').operand =
      (decodeInstr op lo' hi').operand.mode.operandOf lo hi := by
    rw [mode_decodeInstr, h, operand_decodeInstr]
  have hsame := decodeInstr_opcode (wellFormed_decodeInstr op lo' hi') hop
  rwa [opcode_decodeInstr] at hsame

/-- An opcode and the bytes of an operand of its mode decode to the instruction they select, whatever
follows them. -/
theorem decode_operandOf (op lo hi : Byte) (rest : List Byte) :
    decode (op :: (((descriptor op).mode.operandOf lo hi).bytes ++ rest)) =
      .ok (decodeInstr op lo hi, rest) := by
  rw [Mode.bytes_operandOf]
  cases hm : (descriptor op).mode
  case imp | acc =>
    rw [decodeInstr_congr (lo' := 0) (hi' := 0) (by rw [hm]; rfl)]
    exact decode_width_zero rest (by rw [hm]; rfl)
  case imm | zp0 | zpx | zpy | izx | izy | rel =>
    rw [decodeInstr_congr (lo' := lo) (hi' := 0) (by rw [hm]; rfl)]
    exact decode_width_one lo rest (by rw [hm]; rfl)
  case abs | abx | aby | ind => exact decode_width_two lo hi rest (by rw [hm]; rfl)

/-- Everything `decode` can do when it answers an instruction: its opcode and the bytes of its operand
stood at the head of the list (R80 to R83). -/
theorem decode_ok {bytes rest : List Byte} {i : Instr} (h : decode bytes = .ok (i, rest)) :
    ∃ op lo hi, i = decodeInstr op lo hi ∧
      bytes = op :: (((descriptor op).mode.operandOf lo hi).bytes ++ rest) := by
  cases bytes with
  | nil => cases h
  | cons op tail =>
    simp only [Mode.bytes_operandOf]
    simp only [decode] at h
    split at h
    next hw =>
      cases h
      exact ⟨op, 0, 0, rfl, by simp [hw]⟩
    next lo _ hw =>
      cases h
      exact ⟨op, lo, 0, rfl, by simp [hw]⟩
    next lo hi _ hw =>
      cases h
      exact ⟨op, lo, hi, rfl, by simp [hw]⟩
    next => cases h

/-- Three bytes always decode; the operand bytes the instruction does not use are left over (R91). -/
theorem decode_three (op lo hi : Byte) :
    decode [op, lo, hi] =
      .ok (decodeInstr op lo hi, [lo, hi].drop (descriptor op).mode.width) := by
  rw [← decode_operandOf, Mode.bytes_operandOf, List.take_append_drop]

theorem length_decodeInstr (op lo hi : Byte) :
    (decodeInstr op lo hi).length = 1 + (descriptor op).mode.width := by
  rw [Instr.length, mode_decodeInstr]

/-- The encoding is the opcode and the bytes of an operand of the opcode's mode (R80, R82). -/
theorem encode_decodeInstr (op lo hi : Byte) :
    encode (decodeInstr op lo hi) = op :: ((descriptor op).mode.operandOf lo hi).bytes := by
  rw [encode, opcode_decodeInstr, operand_decodeInstr]

/-- Every well-formed instruction is one the decoder selects (R82, R85, R86). -/
theorem exists_eq_decodeInstr {i : Instr} (h : i.WellFormed) :
    ∃ lo hi, i = decodeInstr i.opcode lo hi := by
  obtain ⟨lo, hi, hop⟩ := i.operand.exists_operandOf
  exact ⟨lo, hi, (decodeInstr_opcode h hop).symm⟩

end Sys2Proof

namespace Sys2Proof.Proofs

open Sys2Proof.Machine

/-- Settles O3: a well-formed instruction is one the decoder selects, so its encoding is an opcode and
the bytes of an operand of that opcode's mode, which decode to it. -/
theorem decodeOfEncode : Obligations.DecodeOfEncode := by
  unfold Obligations.DecodeOfEncode
  intro i rest hi
  obtain ⟨lo, hi, hsel⟩ := exists_eq_decodeInstr hi
  rw [hsel, encode_decodeInstr]
  exact decode_operandOf i.opcode lo hi rest

/-- Settles O4: the decoder consumed exactly the bytes that encode what it selected. -/
theorem encodeOfDecode : Obligations.EncodeOfDecode := by
  unfold Obligations.EncodeOfDecode
  intro bytes rest i h
  obtain ⟨op, lo, hi, rfl, rfl⟩ := decode_ok h
  exact ⟨wellFormed_decodeInstr op lo hi, by rw [encode_decodeInstr]; rfl⟩

/-- Settles O5: the table's rows bound the base cost, and the decoder agrees with them. The kernel
alone counts and compares the 105 bytes. -/
theorem opcodeTableIsTotal : Obligations.OpcodeTableIsTotal := by
  unfold Obligations.OpcodeTableIsTotal
  refine ⟨by decide +kernel, by decide +kernel, fun op lo hi => ?_⟩
  obtain ⟨hcost, -⟩ := descriptor_costBounded op
  exact ⟨by omega, descriptor_undocumented_iff op, Laws.TableRow.undocumented_descriptor,
    opcode_decodeInstr op lo hi, mnemonic_decodeInstr op lo hi, mode_decodeInstr op lo hi⟩

/-- Settles O6: the instruction takes its mode's width of the two bytes after the opcode and leaves
the others. -/
theorem decodingNeverFails : Obligations.DecodingNeverFails := by
  unfold Obligations.DecodingNeverFails
  intro op lo hi
  have hwidth := (descriptor op).mode.width_le_two
  refine ⟨_, _, decode_three op lo hi, ?_, length_decodeInstr op lo hi⟩
  rw [length_decodeInstr, List.length_drop, List.length_cons, List.length_singleton]
  omega

/-- Settles O7: the fetched instruction is the one selected by the three bytes from PC on, and its
operand's bytes are the first `width` of the two after the opcode. -/
theorem fetchReadsOperandBytes : Obligations.FetchReadsOperandBytes := by
  unfold Obligations.FetchReadsOperandBytes
  intro s
  have hbytes : (fetchInstr s).operand.bytes =
      [s.mem.read (s.pc + 1), s.mem.read (s.pc + 2)].take (fetchInstr s).operand.mode.width := by
    rw [fetchInstr, mode_decodeInstr, operand_decodeInstr, Mode.bytes_operandOf]
  refine ⟨opcode_decodeInstr _ _ _, fun hw => ?_, fun hw => ?_⟩
  · rw [hbytes, hw]
    rfl
  · rw [hbytes, hw]
    rfl

/-- Settles O1: the three bytes from PC on decode to the fetched instruction, which is what a step at a
boundary executes. -/
theorem stepRunsDecodedInstruction : Obligations.StepRunsDecodedInstruction := by
  unfold Obligations.StepRunsDecodedInstruction
  rintro s i rest ⟨⟨hrefused, hbus⟩, hidle⟩ hdecode
  rw [decode_three] at hdecode
  obtain rfl : fetchInstr s = i := by
    cases hdecode
    rfl
  refine ⟨wellFormed_decodeInstr _ _ _, ?_⟩
  rw [step_idle hrefused hbus hidle]
  cases exec (fetchInstr s) s <;> rfl

/-- Settles O2: each of the twelve words decodes by computation. -/
theorem decodesWordsOfTheMatrix : Obligations.DecodesWordsOfTheMatrix := by
  unfold Obligations.DecodesWordsOfTheMatrix
  and_intros <;> rfl

end Sys2Proof.Proofs
end

section
/-!
Memory, the stack and the resolver (spec/20_memory.md, spec/30_encoding.md section 4): the canonical
form as extensionality, words written and pushed and read back, and each addressing mode as
arithmetic.
-/

namespace Sys2Proof.Machine

/-! ## The canonical form (R70) -/

/-- The first entry of a canonical memory is what its address reads as. -/
theorem Memory.read_head {k : Nat} {v : Byte} {m : Memory} (hk : k < 65536) :
    Memory.read ((k, v) :: m) (BitVec.ofNat 16 k) = v := by
  rw [Memory.read, if_pos]
  rw [BitVec.toNat_ofNat, Nat.mod_eq_of_lt hk]

/-- A canonical memory whose first address is below every address of another reads differently there:
it lists no byte that an unlisted address reads as. -/
theorem Memory.exists_read_ne {k : Nat} {v : Byte} {m n : Memory} (hm : Memory.wf ((k, v) :: m))
    (hn : ∀ c ∈ n, k < c.1) : ∃ a, Memory.read ((k, v) :: m) a ≠ n.read a := by
  obtain ⟨-, hk, hv, -⟩ := Memory.wf_cons.mp hm
  refine ⟨BitVec.ofNat 16 k, ?_⟩
  rw [Memory.read_head hk, Memory.read_of_lt (m := n)]
  · exact hv
  · rwa [BitVec.toNat_ofNat, Nat.mod_eq_of_lt hk]

/-- Two canonical memories with one first entry read alike only if their remainders do: neither
remainder lists the first address. -/
theorem Memory.read_tail_eq {k : Nat} {v : Byte} {m n : Memory} (hm : ∀ c ∈ m, k < c.1)
    (hn : ∀ c ∈ n, k < c.1)
    (h : ∀ a, Memory.read ((k, v) :: m) a = Memory.read ((k, v) :: n) a) (a : Word) :
    m.read a = n.read a := by
  by_cases hk : k = a.toNat
  · rw [Memory.read_of_lt (hk ▸ hm), Memory.read_of_lt (hk ▸ hn)]
  · simpa only [Memory.read, if_neg hk] using h a

/-- Canonical memories that read alike are one list: of two first addresses the lower would be read
differently by the other memory. -/
theorem Memory.eq_of_read_eq {m n : Memory} (hm : m.wf) (hn : n.wf)
    (h : ∀ a, m.read a = n.read a) : m = n := by
  have below : ∀ {k v} {m n : Memory}, Memory.wf ((k, v) :: m) → (∀ c ∈ n, k < c.1) →
      ¬ ∀ a, Memory.read ((k, v) :: m) a = n.read a := fun hm hn h => by
    obtain ⟨a, ha⟩ := Memory.exists_read_ne hm hn
    exact ha (h a)
  induction m generalizing n with
  | nil =>
    cases n with
    | nil => rfl
    | cons d n => exact absurd (fun a => (h a).symm) (below hn (by simp))
  | cons c m ih =>
    cases n with
    | nil => exact absurd h (below hm (by simp))
    | cons d n =>
      obtain ⟨k, v⟩ := c
      obtain ⟨j, w⟩ := d
      obtain ⟨hkm, hk, -, hmwf⟩ := Memory.wf_cons.mp hm
      obtain ⟨hjn, hj, -, hnwf⟩ := Memory.wf_cons.mp hn
      rcases Nat.lt_trichotomy k j with hlt | rfl | hlt
      · refine absurd h (below hm fun e he => ?_)
        rcases List.mem_cons.mp he with rfl | he
        · exact hlt
        · exact hlt.trans (hjn e he)
      · obtain rfl : v = w := by
          have hhead := h (BitVec.ofNat 16 k)
          rwa [Memory.read_head hk, Memory.read_head hk] at hhead
        rw [ih hmwf hnwf (Memory.read_tail_eq hkm hjn h)]
      · refine absurd (fun a => (h a).symm) (below hn fun e he => ?_)
        rcases List.mem_cons.mp he with rfl | he
        · exact hlt
        · exact hlt.trans (hkm e he)

/-! ## Words in memory (R53, R54) -/

/-- An address and the next one are two, also where the address space wraps. -/
theorem ne_add_one (a : Word) : a ≠ a + 1 := by
  bv_omega

/-- The address after `a`, modulo 2^16 (R53). -/
theorem add_one_eq_ofNat (a : Word) : a + 1 = BitVec.ofNat 16 ((a.toNat + 1) % 65536) := by
  bv_omega

/-- A word whose bytes are written low byte first reads back (R54). -/
theorem Memory.readWord_write_write {m : Memory} (hm : m.wf) (a : Word) (hi lo : Byte) :
    ((m.write a lo).write (a + 1) hi).readWord a = wordOf hi lo := by
  rw [Memory.readWord, Memory.read_write_same (Memory.wf_write hm a lo),
    Memory.read_write_other _ _ (ne_add_one a), Memory.read_write_same hm]

theorem hiByte_eq_ofNat (w : Word) : hiByte w = BitVec.ofNat 8 (w.toNat / 256) := by
  apply BitVec.eq_of_toNat_eq
  have := w.isLt
  rw [hiByte_toNat, BitVec.toNat_ofNat, Nat.mod_eq_of_lt (by omega)]

theorem loByte_eq_ofNat (w : Word) : loByte w = BitVec.ofNat 8 (w.toNat % 256) := by
  apply BitVec.eq_of_toNat_eq
  rw [loByte_toNat, BitVec.toNat_ofNat, Nat.mod_mod]

/-! ## Pulls after pushes (R60 to R63) -/

section

variable {s t : State}

/-- What `Pull()` returns depends on SP and memory alone (R61). -/
theorem pullByte_congr (hsp : t.sp = s.sp) (hmem : t.mem = s.mem) : pullByte t = pullByte s := by
  rw [pullByte, hsp, hmem, pullByte]

/-- What two pulls return depends on SP and memory alone (R61). -/
theorem pullWord_congr (hsp : t.sp = s.sp) (hmem : t.mem = s.mem) : pullWord t = pullWord s := by
  have hpull : pullByte (pullSp t) = pullByte (pullSp s) :=
    pullByte_congr (by rw [pullSp_sp, hsp, pullSp_sp]) hmem
  rw [pullWord, hpull, pullByte_congr hsp hmem, pullWord]

theorem pullSp_push_sp (v : Byte) (s : State) : (pullSp (push v s)).sp = s.sp :=
  BitVec.sub_add_cancel s.sp 1

theorem pullByte_push (v : Byte) (hm : s.mem.wf) : pullByte (push v s) = v := by
  rw [pullByte_eq_read_pullSp, pullSp_push_sp, read_push_stackAddr v hm]

theorem pullSp_pullSp_pushWord_sp (w : Word) (s : State) :
    (pullSp (pullSp (pushWord w s))).sp = s.sp := by
  rw [pullSp_pullSp_sp, pushWord_sp, BitVec.sub_add_cancel]

/-- The low byte was pushed last, so it is pulled first. -/
theorem pullWord_pushWord (w : Word) (hm : s.mem.wf) : pullWord (pushWord w s) = w := by
  have hlo : pullByte (pushWord w s) = loByte w :=
    pullByte_push (loByte w) (s := push (hiByte w) s) (Memory.wf_write hm _ _)
  have hhi : pullByte (pullSp (pushWord w s)) = hiByte w := by
    rw [pullByte_eq_read_pullSp, pullSp_pullSp_pushWord_sp, pullSp_mem, read_pushWord_hi w hm]
  rw [pullWord, hlo, hhi, wordOf_hiByte_loByte]

end

/-! ## The resolver (R95 to R108) -/

/-- The resolver's frame: it writes PC and scratch only (R95). -/
theorem resolve_frame (o : Operand) (s : State) : Frame [] [] [] s (resolve o s) where
  regs g _ := by cases g <;> rfl
  flags _ _ := rfl
  memory _ _ := rfl
  host := ⟨rfl, rfl, rfl⟩

theorem resolve_pc_toNat (o : Operand) (s : State) :
    (resolve o s).pc.toNat = (s.pc.toNat + o.mode.width) % 65536 := by
  rw [resolve_pc, BitVec.toNat_add, BitVec.toNat_ofNat, Nat.add_mod_mod]

theorem relOffset_of_mode_ne_rel {o : Operand} (h : o.mode ≠ .rel) (s : State) :
    relOffset o s = s.addrRel := by
  cases o
  case rel => exact absurd rfl h
  all_goals rfl

/-- The three modes without an EA (R96, R97, R108). -/
theorem effAddr_of_no_ea {o : Operand} (h : o.mode ∈ [Mode.imp, .acc, .rel]) (s : State) :
    effAddr o s = s.addrAbs := by
  cases o
  case imp | acc | rel => rfl
  all_goals simp [Operand.mode] at h

/-- Only an indexed sum signals a crossing (R103, R104, R107). -/
theorem mode_of_pageCrossed {o : Operand} {s : State} (h : pageCrossed o s = true) :
    o.mode ∈ [Mode.abx, .aby, .izy] := by
  cases o
  case abx | aby | izy => simp [Operand.mode]
  all_goals cases h

/-- An address in page zero has the number of its byte (R99 to R101). -/
theorem zext16_add_toNat (b v : Byte) : (zext16 (b + v)).toNat = (b.toNat + v.toNat) % 256 := by
  rw [zext16_toNat, BitVec.toNat_add]

/-- Adding an index is adding it modulo 2^16 (R103, R104, R107). -/
theorem add_zext16_toNat (w : Word) (v : Byte) :
    (w + zext16 v).toNat = (w.toNat + v.toNat) % 65536 := by
  rw [BitVec.toNat_add, zext16_toNat]

/-- An indexed sum leaves the page of its base iff the high byte changes; a wrap past 0xFFFF counts
(R103, R104, R107). -/
theorem not_samePage_add_zext16_iff (w : Word) (v : Byte) :
    (!samePage w (w + zext16 v)) = true ↔
      w.toNat / 256 ≠ (w.toNat + v.toNat) % 65536 / 256 := by
  rw [Bool.not_eq_true', ← Bool.not_eq_true, samePage_iff, add_zext16_toNat]

/-- A pointer in page zero reads its second byte in page zero (R106, R107). -/
theorem Memory.readPointer_zext16_toNat (m : Memory) (b : Byte) :
    (m.readPointer (zext16 b)).toNat = (m.read (BitVec.ofNat 16 b.toNat)).toNat +
      256 * (m.read (BitVec.ofNat 16 ((b.toNat + 1) % 256))).toNat := by
  have hb : b.toNat / 256 = 0 := Nat.div_eq_of_lt b.isLt
  have hptr : zext16 b = BitVec.ofNat 16 b.toNat := (BitVec.ofNat_toNat 16 b).symm
  rw [Memory.readPointer_toNat, zext16_toNat, hb, Nat.zero_mul, Nat.zero_add, hptr]

end Sys2Proof.Machine

namespace Sys2Proof.Proofs

open Sys2Proof.Machine

/-- Settles O9: by induction on the two lists, comparing their first addresses. -/
theorem canonicalMemoryIsUnique : Obligations.CanonicalMemoryIsUnique := by
  unfold Obligations.CanonicalMemoryIsUnique
  exact fun m n hm hn => Memory.eq_of_read_eq hm hn

/-- Settles O10: the read is arithmetic on its two bytes, and the two bytes written are those of the
word. -/
theorem wordReadIsLittleEndian : Obligations.WordReadIsLittleEndian := by
  unfold Obligations.WordReadIsLittleEndian
  refine ⟨fun m a => ?_, fun m a w hm => ?_⟩
  · rw [Memory.readWord_toNat, add_one_eq_ofNat]
  · rw [← hiByte_eq_ofNat, ← loByte_eq_ofNat, Memory.readWord_write_write hm,
      wordOf_hiByte_loByte]

/-- Settles O12: a pull reads the address its push wrote, and the second push of a word leaves the
byte of the first. -/
theorem pullUndoesPush : Obligations.PullUndoesPush := by
  unfold Obligations.PullUndoesPush
  exact fun v w s hm => ⟨pullByte_push v hm, pullSp_push_sp v s, pullWord_pushWord w hm,
    pullSp_pullSp_pushWord_sp w s⟩

/-- Settles O13: the resolver's four writes, read off field by field. -/
theorem resolverFrame : Obligations.ResolverFrame := by
  unfold Obligations.ResolverFrame
  exact fun o s => ⟨resolve_pc_toNat o s, resolve_frame o s, resolve_p o s, resolve_remaining o s,
    resolve_opcode o s, resolve_fetched o s, fun h => relOffset_of_mode_ne_rel h s,
    fun h => effAddr_of_no_ea h s, mode_of_pageCrossed⟩

/-- Settles O14: each address is a byte, extended with zeros. -/
theorem zeroPageModes : Obligations.ZeroPageModes := by
  unfold Obligations.ZeroPageModes
  exact fun b s => ⟨⟨zext16_toNat b, zext16_add_toNat b s.x, zext16_add_toNat b s.y⟩, rfl, rfl, rfl⟩

/-- Settles O15: the indexed forms are one sum with X or Y. -/
theorem absoluteModes : Obligations.AbsoluteModes := by
  unfold Obligations.AbsoluteModes
  exact fun w s => ⟨⟨rfl, rfl⟩,
    ⟨add_zext16_toNat w s.x, not_samePage_add_zext16_iff w s.x⟩,
    ⟨add_zext16_toNat w s.y, not_samePage_add_zext16_iff w s.y⟩⟩

/-- Settles O16: each mode is a pointer read; IZY's is the base of an indexed sum. -/
theorem indirectModes : Obligations.IndirectModes := by
  unfold Obligations.IndirectModes
  refine fun w b s => ⟨⟨Memory.readPointer_toNat s.mem w, rfl⟩, ⟨?_, rfl⟩, ?_⟩
  · rw [resolve_addrAbs, effAddr, Memory.readPointer_zext16_toNat, BitVec.toNat_add,
      Nat.mod_add_mod]
  · rintro _ rfl
    rw [← Memory.readPointer_zext16_toNat]
    exact ⟨add_zext16_toNat _ s.y, not_samePage_add_zext16_iff _ s.y⟩

/-- Settles O17: the target is PC after the operand plus the sign-extended offset. -/
theorem immediateAndRelativeModes : Obligations.ImmediateAndRelativeModes := by
  unfold Obligations.ImmediateAndRelativeModes
  refine fun b s => ⟨⟨rfl, rfl⟩, ?_⟩
  have htarget := add_sext16_toNat (resolve (.rel b) s).pc b
  rw [resolve_pc_toNat] at htarget
  rw [resolve_addrRel, relOffset, htarget]
  simp only [Operand.mode, Mode.width]
  omega

end Sys2Proof.Proofs
end

section
/-!
NOP, BRK and the undocumented opcodes (spec/48_nop_break_illegal.md), interrupt entry and the return
from it (spec/60_exceptions.md), and the calls the host is refused (spec/70_reset_and_hazards.md R272,
R284, R285).
-/

namespace Sys2Proof.Machine

/-! ## What interrupt entry does (R233) -/

/-- What a claim says of an entry through `vector` that pushes the address `ret` and the copy `pushedP`
of P, between two states. -/
structure EntersInterrupt (vector ret : Word) (pushedP : Byte) (s t : State) : Prop where
  disabled : t.flag .i = true
  sp : t.sp = s.sp - 3
  pc : t.pc = s.mem.readWord vector
  pushed : s.mem.wf → (t.mem.read (stackAddr s.sp)).toNat = ret.toNat / 256 ∧
    (t.mem.read (stackAddr (s.sp - 1))).toNat = ret.toNat % 256 ∧
    t.mem.read (stackAddr (s.sp - 2)) = pushedP
  frame : Frame [.sp] [.i] [stackAddr s.sp, stackAddr (s.sp - 1), stackAddr (s.sp - 2)] s t

/-- An address above the stack page is no stack address (R59). -/
theorem ne_stackAddr {a : Word} (h : 512 ≤ a.toNat) (b : Byte) : a ≠ stackAddr b := by
  rintro rfl
  have hb := b.isLt
  rw [stackAddr_toNat] at h
  omega

section

variable (s : State) (pushedP : Byte)

/-- The three pushes of an entry change SP and the three bytes only. -/
theorem push_pushWord_frame :
    Frame [.sp] [] [stackAddr s.sp, stackAddr (s.sp - 1), stackAddr (s.sp - 2)] s
      (push pushedP (pushWord s.pc s)) := by
  have hword := pushWord_frame s.pc s
  have hp := push_frame pushedP (pushWord s.pc s)
  rw [pushWord_sp] at hp
  exact (hword.mono (List.Subset.refl _) (List.Subset.refl _) (by simp)).trans
    (hp.mono (List.Subset.refl _) (List.Subset.refl _) (by simp))

/-- The three pushes of an entry leave a byte above the stack page as it was. -/
theorem read_push_pushWord_of_above {a : Word} (h : 512 ≤ a.toNat) :
    (push pushedP (pushWord s.pc s)).mem.read a = s.mem.read a :=
  (push_pushWord_frame s pushedP).memory a (by simp [ne_stackAddr h])

/-- The vector is read after the pushes, which do not touch it. -/
theorem readWord_push_pushWord {vector : Word} (h : 512 ≤ vector.toNat)
    (h' : 512 ≤ (vector + 1).toNat) :
    (push pushedP (pushWord s.pc s)).mem.readWord vector = s.mem.readWord vector := by
  rw [Memory.readWord, read_push_pushWord_of_above s pushedP h,
    read_push_pushWord_of_above s pushedP h', Memory.readWord]

/-- The last push leaves the two bytes of the address where the first two put them. -/
theorem read_push_pushWord (hm : s.mem.wf) :
    (push pushedP (pushWord s.pc s)).mem.read (stackAddr s.sp) = hiByte s.pc ∧
      (push pushedP (pushWord s.pc s)).mem.read (stackAddr (s.sp - 1)) = loByte s.pc ∧
      (push pushedP (pushWord s.pc s)).mem.read (stackAddr (s.sp - 2)) = pushedP := by
  have hhi : stackAddr s.sp ≠ stackAddr (s.sp - 2) := fun h => by
    have hsp := stackAddr_inj h
    bv_omega
  have hlo : stackAddr (s.sp - 1) ≠ stackAddr (s.sp - 2) := fun h => by
    have hsp := stackAddr_inj h
    bv_omega
  have hwf : (pushWord s.pc s).mem.wf := Memory.wf_write (Memory.wf_write hm _ _) _ _
  rw [push_mem, pushWord_sp, Memory.read_write_other _ _ hhi, Memory.read_write_other _ _ hlo,
    Memory.read_write_same hwf]
  exact ⟨read_pushWord_hi s.pc hm, read_pushWord_lo s.pc hm, rfl⟩

/-- An entry through a vector above the stack page. -/
theorem interruptEntry_enters {vector : Word} (h : 512 ≤ vector.toNat)
    (h' : 512 ≤ (vector + 1).toNat) :
    EntersInterrupt vector s.pc pushedP s (interruptEntry vector pushedP s) where
  disabled := State.flag_setFlag _ .i .i true
  sp := by
    rw [interruptEntry_eq, State.setPc_sp, State.setFlag_sp, push_sp, pushWord_sp]
    exact BitVec.sub_sub s.sp 2 1
  pc := readWord_push_pushWord s pushedP h h'
  pushed hm := by
    obtain ⟨hhi, hlo, hp⟩ := read_push_pushWord s pushedP hm
    rw [interruptEntry_eq, State.setPc_mem, State.setFlag_mem, hhi, hlo, hiByte_toNat, loByte_toNat]
    exact ⟨rfl, rfl, hp⟩
  frame := by
    have hpush := (push_pushWord_frame s pushedP).mono (flags' := [.i]) (List.Subset.refl _)
      (List.nil_subset _) (List.Subset.refl _)
    exact (hpush.trans (setFlag_frame .i true _)).trans (setPc_frame _ _)

/-- The transactions of an entry: three writes, then the two bytes of the vector (R233). -/
theorem interruptAccesses_eq {vector : Word} (h : 512 ≤ vector.toNat)
    (h' : 512 ≤ (vector + 1).toNat) :
    interruptAccesses vector pushedP s =
      [.write (stackAddr s.sp) (hiByte s.pc), .write (stackAddr (s.sp - 1)) (loByte s.pc),
        .write (stackAddr (s.sp - 2)) pushedP, .read vector (s.mem.read vector),
        .read (vector + 1) (s.mem.read (vector + 1))] := by
  rw [← read_push_pushWord_of_above s pushedP h, ← read_push_pushWord_of_above s pushedP h',
    ← pushWord_sp s.pc s]
  rfl

end

section

variable {vector ret : Word} {pushedP : Byte} {s r t : State}

/-- The opcode fetch and the padding byte before an entry are no part of its effect. -/
theorem EntersInterrupt.of_frame (h : EntersInterrupt vector ret pushedP r t) (hsp : r.sp = s.sp)
    (hmem : r.mem = s.mem) (hframe : ∀ regs flags bytes, Frame regs flags bytes s r) :
    EntersInterrupt vector ret pushedP s t := by
  obtain ⟨hi, hsp', hpc, hpushed, hframe'⟩ := h
  rw [hsp] at hsp' hpushed hframe'
  rw [hmem] at hpc hpushed
  exact ⟨hi, hsp', hpc, hpushed, (hframe _ _ _).trans hframe'⟩

theorem EntersInterrupt.setRemaining (h : EntersInterrupt vector ret pushedP s t) (n : Nat) :
    EntersInterrupt vector ret pushedP s (t.setRemaining n) :=
  { h with frame := h.frame.trans (setRemaining_frame t n) }

end

/-! ## BRK and NOP (R220, R221) -/

/-- An Implied instruction reads its opcode before its handler's transactions (R90, R96). -/
theorem instrAccesses_imp {i : Instr} (s : State) (hop : i.operand = .imp) :
    instrAccesses i s =
      readAccess s.mem s.pc :: handlerAccesses i.mnemonic .imp (resolved i.opcode .imp s) := by
  rw [instrAccesses, hop]
  rfl

/-- BRK's address to return to is two bytes on: the padding byte is skipped (R221). -/
theorem resolved_brk_pc (s : State) : (resolved 0x00#8 .imp s).pc + 1 = s.pc + 2 := by
  rw [resolved_imp_pc, BitVec.add_assoc]
  rfl

/-- BRK is an entry through the IRQ vector with the software copy of P (R221, R242). -/
theorem handleBrk_enters (s : State) :
    EntersInterrupt Config.irqVector (s.pc + 2) (softwarePushedP s.p) s
      (handleBrk (resolved 0x00#8 .imp s)) := by
  have henters := interruptEntry_enters ((resolved 0x00#8 .imp s).setPc (s.pc + 2))
    (softwarePushedP s.p) (vector := Config.irqVector) (by decide) (by decide)
  rw [handleBrk, resolved_brk_pc, resolved_p]
  exact henters.of_frame (resolved_sp s 0x00#8 .imp) (resolved_mem s 0x00#8 .imp) fun _ _ _ =>
    (resolved_frame _ _ s).trans (setPc_frame _ _)

/-- The transactions of BRK: the opcode, three writes and the vector (R221). -/
theorem instrAccesses_brk (s : State) :
    instrAccesses .brk s =
      [.read s.pc (s.mem.read s.pc), .write (stackAddr s.sp) (hiByte (s.pc + 2)),
        .write (stackAddr (s.sp - 1)) (loByte (s.pc + 2)),
        .write (stackAddr (s.sp - 2)) (softwarePushedP s.p),
        .read 0xFFFE#16 (s.mem.read 0xFFFE#16), .read 0xFFFF#16 (s.mem.read 0xFFFF#16)] := by
  have hentry := interruptAccesses_eq ((resolved 0x00#8 .imp s).setPc (s.pc + 2))
    (softwarePushedP s.p) (vector := Config.irqVector) (by decide) (by decide)
  rw [State.setPc_sp, State.setPc_mem, State.setPc_pc, resolved_sp, resolved_mem] at hentry
  rw [instrAccesses_imp s rfl, Instr.mnemonic, Instr.opcode, handlerAccesses, resolved_brk_pc,
    resolved_p, hentry]
  rfl

/-! ## The triggers at a boundary and while Busy (R240, R241, R270, R284) -/

/-- The host call of a trigger. -/
def Trigger.call : Trigger → HostCall
  | .reset => .reset
  | .irq => .irq
  | .nmi => .nmi

/-- What a trigger does at Idle. -/
def Trigger.protocol : Trigger → State → State
  | .reset => resetProtocol
  | .irq => irqProtocol
  | .nmi => nmiProtocol

theorem hostCall_trigger {s : State} (op : Trigger) (h : s.refused = none) :
    hostCall op.call s = whenAttached (whenIdle op op.protocol) s := by
  rw [hostCall_of_unrefused _ h]
  cases op <;> rfl

theorem hostCall_trigger_of_atBoundary {s : State} (op : Trigger) (h : s.AtBoundary) :
    hostCall op.call s = .next (op.protocol s) := by
  obtain ⟨⟨hrefused, hbus⟩, hidle⟩ := h
  rw [hostCall_trigger op hrefused, whenAttached_of_attached _ hbus, whenIdle_of_idle _ _ hidle]

/-- While Busy a trigger is refused by name (R284). -/
theorem hostCall_trigger_of_busy {s : State} (op : Trigger) (h : s.Running) (hbusy : s.Busy) :
    hostCall op.call s = .refused (.busyTrigger op) := by
  obtain ⟨hrefused, hbus⟩ := h
  rw [hostCall_trigger op hrefused, whenAttached_of_attached _ hbus]
  exact if_neg hbusy.ne'

/-- Without a bus a call that needs one is refused (R272). -/
theorem whenAttached_of_detached {s : State} (run : State → Host.Outcome State Fault Refusal)
    (h : s.busAttached = false) : whenAttached run s = .refused .noBus := by
  rw [whenAttached, h]
  rfl

/-- The three clauses of an IRQ or NMI entry at a boundary (R233). -/
theorem intEntry_enters (s : State) {vector : Word} (cycles : Nat) (h : 512 ≤ vector.toNat)
    (h' : 512 ≤ (vector + 1).toNat) :
    EntersInterrupt vector s.pc (hardwarePushedP s.p) s (intEntry vector cycles s) :=
  (interruptEntry_enters s (hardwarePushedP s.p) h h').setRemaining cycles

theorem irqProtocol_of_masked {s : State} (h : s.flag .i = true) : irqProtocol s = s := if_pos h

theorem irqProtocol_of_enabled {s : State} (h : s.flag .i = false) :
    irqProtocol s = intEntry Config.irqVector Config.irqCycles s :=
  if_neg (Bool.eq_false_iff.mp h)

/-! ## Returns (R202, R203): RTS after JSR, RTI after an entry -/

/-- What an entry pushed comes off the stack in reverse order: the copy of P, then the address. -/
theorem EntersInterrupt.pull {vector ret : Word} {pushedP : Byte} {s t : State}
    (h : EntersInterrupt vector ret pushedP s t) (hm : s.mem.wf) :
    pullByte t = pushedP ∧ pullWord (pullSp t) = ret := by
  obtain ⟨-, hsp, -, hpushed, -⟩ := h
  obtain ⟨hhi, hlo, hp⟩ := hpushed hm
  have hsp₁ : t.sp + 1 = s.sp - 2 := by rw [hsp]; bv_omega
  have hsp₂ : (pullSp t).sp + 1 = s.sp - 1 := by rw [pullSp_sp, hsp]; bv_omega
  have hsp₃ : (pullSp t).sp + 2 = s.sp := by rw [pullSp_sp, hsp]; bv_omega
  constructor
  · rw [pullByte, hsp₁, hp]
  · apply BitVec.eq_of_toNat_eq
    rw [pullWord_toNat, pullSp_mem, hsp₂, hsp₃, hhi, hlo]
    omega

/-- RTI takes a copy of P and an address off the stack (R203). -/
theorem exec_rti_of_pull {t : State} {p : Byte} {w : Word} (hp : pullByte t = p)
    (hw : pullWord (pullSp t) = w) :
    ∃ u, exec .rti t = .next u ∧ u.pc = w ∧ u.p = pulledP p ∧ u.sp = t.sp + 3 ∧
      Frame [.sp] [.c, .z, .i, .d, .b, .u, .v, .n] [] t u := by
  have hbyte : pullByte (resolved Instr.rti.opcode .imp t) = p :=
    (pullByte_congr (resolved_sp t _ _) (resolved_mem t _ _)).trans hp
  have hword : pullWord (handlePlp (resolved Instr.rti.opcode .imp t)) = w := by
    rw [← hw]
    exact pullWord_congr (by rw [handlePlp_sp, resolved_sp, pullSp_sp])
      (by rw [handlePlp_mem, resolved_mem, pullSp_mem])
  refine ⟨_, exec_implied (i := .rti) rfl rfl (exec_rti t rfl), ?_, ?_, ?_,
    execute_frame 6 (handleRti_frame _)⟩
  · rw [State.setRemaining_pc, handleRti_eq_handlePlp, State.setPc_pc, hword]
  · rw [State.setRemaining_p, handleRti_p, hbyte]
  · rw [State.setRemaining_sp, handleRti_sp, resolved_sp]

/-- RTS takes a word off the stack and goes one past it (R202). -/
theorem exec_rts_of_pull {t : State} {w : Word} (hw : pullWord t = w) :
    ∃ u, exec .rts t = .next u ∧ u.pc = w + 1 ∧ u.sp = t.sp + 2 ∧ u.p = t.p := by
  have hword : pullWord (resolved Instr.rts.opcode .imp t) = w :=
    (pullWord_congr (resolved_sp t _ _) (resolved_mem t _ _)).trans hw
  refine ⟨_, exec_implied (i := .rts) rfl rfl (exec_rts t rfl), ?_, ?_, ?_⟩
  · rw [State.setRemaining_pc, handleRts, State.setPc_pc, hword]
  · rw [State.setRemaining_sp, handleRts, State.setPc_sp, pullSp_pullSp_sp, resolved_sp]
  · rw [State.setRemaining_p, handleRts, State.setPc_p, pullSp_p, pullSp_p, resolved_p]

/-- Keeping every register but SP, and SP too, is keeping every register. -/
theorem keepsRegs_of_sp {s t : State} (h : KeepsRegs [.sp] s t) (hsp : t.sp = s.sp) :
    KeepsRegs [] s t := by
  intro g _
  by_cases hg : g = .sp
  · rw [hg]
    exact hsp
  · exact h g (by simpa using hg)

/-- RTI in the state an IRQ or NMI entry leaves (R203, R233, R245). -/
theorem EntersInterrupt.exec_rti {vector ret : Word} {s t : State}
    (h : EntersInterrupt vector ret (hardwarePushedP s.p) s t) (hm : s.mem.wf) :
    ∃ u, exec .rti t = .next u ∧ u.pc = ret ∧ KeepsRegs [] s u ∧ KeepsFlags [.b, .u] s u ∧
      u.flag .b = false ∧ u.flag .u = true := by
  obtain ⟨hbyte, hword⟩ := h.pull hm
  obtain ⟨u, hu, hpc, hp, hsp, hframe⟩ := exec_rti_of_pull hbyte hword
  have hflag : ∀ f, u.flag f =
      if f = .b then false else if f = .u then true else s.flag f := fun f => by
    rw [State.flag, hp, getFlag_pulledP, getFlag_hardwarePushedP]
    split_ifs <;> rfl
  have hsp' : u.sp = s.sp := by
    rw [hsp, h.sp]
    exact BitVec.sub_add_cancel s.sp 3
  have hregs : KeepsRegs [.sp] s u := fun g hg => (hframe.regs g hg).trans (h.frame.regs g hg)
  refine ⟨u, hu, hpc, keepsRegs_of_sp hregs hsp', fun f hf => ?_, hflag .b, hflag .u⟩
  obtain ⟨hb, hU⟩ : f ≠ .b ∧ f ≠ .u := by simpa using hf
  rw [hflag, if_neg hb, if_neg hU]

/-! ## The undocumented opcodes and the mark (R222, R285) -/

/-- In a marked state every call answers the refusal again (R285). -/
theorem hostCall_of_refused {s : State} {r : Refusal} (h : s.refused = some r) (c : HostCall) :
    hostCall c s = .refused r := by
  rw [hostCall, h]

/-- In a marked state no call changes anything (R285). -/
theorem perform_of_marked {s : State} {r : Refusal} (h : s.refused = some r) (c : HostCall) :
    perform c s = s := by
  rw [perform_of_refused (hostCall_of_refused h c), ← h]
  rfl

theorem performAll_of_marked {s : State} {r : Refusal} (h : s.refused = some r)
    (calls : List HostCall) : performAll calls s = s := by
  induction calls with
  | nil => rfl
  | cons c calls ih => rw [performAll, perform_of_marked h, ih]

/-- The byte at PC, if undocumented, is the whole instruction fetched (R86). -/
theorem fetchInstr_undocumented {s : State} {op : Byte} (h : op ∈ undocumentedOpcodes)
    (hread : s.mem.read s.pc = op) : fetchInstr s = .undocumented op := by
  rw [fetchInstr, hread]
  exact decodeInstr_undocumented h _ _

/-- At a boundary an undocumented opcode is refused, after its one transaction (R222). -/
theorem hostCall_clock_undocumented {s : State} {op : Byte} (h : op ∈ undocumentedOpcodes)
    (hs : s.AtBoundary) (hread : s.mem.read s.pc = op) :
    hostCall .clock s = .refused (.illegalOpcode op s.pc) := by
  obtain ⟨⟨hrefused, hbus⟩, hidle⟩ := hs
  have hstep := step_idle hrefused hbus hidle
  rw [fetchInstr_undocumented h hread, exec_undocumented s rfl] at hstep
  exact hstep

theorem callAccesses_clock_of_atBoundary {s : State} (h : s.AtBoundary) :
    callAccesses .clock s = instrAccesses (fetchInstr s) s := by
  obtain ⟨⟨hrefused, hbus⟩, hidle⟩ := h
  simp [callAccesses, hrefused, hbus, hidle]

end Sys2Proof.Machine

namespace Sys2Proof.Proofs

open Sys2Proof.Machine

/-- Settles O40: NOP's handler is the identity on the resolved state. The kernel alone reads the rows
of the table, as for O22. -/
theorem nopOnlyAdvances : Obligations.NopOnlyAdvances := by
  unfold Obligations.NopOnlyAdvances
  refine ⟨by decide +kernel, fun s => ⟨_, exec_implied (i := .nop) rfl rfl (exec_nop s rfl), ?_, rfl,
    ?_, ?_, ?_, instrAccesses_implied s rfl fun _ => rfl⟩⟩
  · rw [State.setRemaining_pc, handleNop, resolved_imp_pc]
  · exact (resolved_frame _ _ s).trans (setRemaining_frame _ 2)
  · rw [State.setRemaining_p, handleNop, resolved_p]
  · rw [State.setRemaining_mem, handleNop, resolved_mem]

/-- Settles O41: BRK is an interrupt entry whose address is two past its own. -/
theorem brkTakesTheIrqVector : Obligations.BrkTakesTheIrqVector := by
  unfold Obligations.BrkTakesTheIrqVector
  refine ⟨by decide, ?_⟩
  rintro s _ rfl
  obtain ⟨hi, hsp, hpc, hpushed, hframe⟩ := (handleBrk_enters s).setRemaining 7
  exact ⟨_, exec_implied (i := .brk) rfl rfl (exec_brk s rfl), hi, hsp, rfl, hpc, hpushed, hframe,
    instrAccesses_brk s⟩

/-- Settles O42: the byte at PC selects the refusing instruction, and the mark then stops every
call. -/
theorem undocumentedOpcodeRefuses : Obligations.UndocumentedOpcodeRefuses := by
  unfold Obligations.UndocumentedOpcodeRefuses
  refine fun s op h => ⟨Laws.TableRow.undocumented_descriptor h, exec_undocumented s rfl,
    fun hs hread => ?_⟩
  have hcall := hostCall_clock_undocumented h hs hread
  have hperform := perform_of_refused hcall
  refine ⟨hcall, hperform, ?_, fun c => ?_⟩
  · rw [callAccesses_clock_of_atBoundary hs, fetchInstr_undocumented h hread,
      instrAccesses_implied s rfl fun _ => rfl, hread]
  · rw [hperform]
    exact perform_of_marked rfl c

/-- Settles O45: with I set the call does nothing; with I clear it is an interrupt entry. -/
theorem irqEntry : Obligations.IrqEntry := by
  unfold Obligations.IrqEntry
  intro s hs
  have hcall := hostCall_trigger_of_atBoundary .irq hs
  refine ⟨fun hi => ⟨?_, by simp [callAccesses, hi]⟩, fun hi => ?_⟩
  · rw [← irqProtocol_of_masked hi, irqProtocol_of_masked hi]
    exact hcall.trans (congrArg _ (irqProtocol_of_masked hi))
  · obtain ⟨hi', hsp, hpc, hpushed, hframe⟩ := intEntry_enters s (vector := Config.irqVector)
      Config.irqCycles (by decide) (by decide)
    exact ⟨_, hcall.trans (congrArg _ (irqProtocol_of_enabled hi)), hi', hsp, rfl, hpc, hpushed,
      hframe⟩

/-- Settles O46: an NMI is an interrupt entry whatever I is. -/
theorem nmiEntry : Obligations.NmiEntry := by
  unfold Obligations.NmiEntry
  intro s hs
  obtain ⟨hi, hsp, hpc, hpushed, hframe⟩ := intEntry_enters s (vector := Config.nmiVector)
    Config.nmiCycles (by decide) (by decide)
  exact ⟨_, hostCall_trigger_of_atBoundary .nmi hs, hi, hsp, rfl, hpc, hpushed, hframe⟩

/-- Settles O47: RTI pulls what the entry pushed, through either vector. -/
theorem rtiUndoesInterruptEntry : Obligations.RtiUndoesInterruptEntry := by
  unfold Obligations.RtiUndoesInterruptEntry
  rintro c s t hs hm (rfl | ⟨rfl, hi⟩) hcall
  · cases hcall.symm.trans (hostCall_trigger_of_atBoundary .nmi hs)
    exact (intEntry_enters s Config.nmiCycles (by decide) (by decide)).exec_rti hm
  · cases hcall.symm.trans ((hostCall_trigger_of_atBoundary .irq hs).trans
      (congrArg _ (irqProtocol_of_enabled hi)))
    exact (intEntry_enters s Config.irqCycles (by decide) (by decide)).exec_rti hm

/-- Settles O38: RTS pulls the word JSR pushed, one below the next instruction's address. -/
theorem rtsUndoesJsr : Obligations.RtsUndoesJsr := by
  unfold Obligations.RtsUndoesJsr
  intro w s t hm hjsr
  rw [exec_jsr_pushWord] at hjsr
  cases hjsr
  have hword : pullWord (((pushWord (s.pc + 2) (resolved 0x20#8 (.abs w) s)).setPc w).setRemaining 6) =
      s.pc + 2 := by
    refine (pullWord_congr (s := pushWord (s.pc + 2) (resolved 0x20#8 (.abs w) s)) ?_ ?_).trans
      (pullWord_pushWord (s.pc + 2) ?_)
    · rw [State.setRemaining_sp, State.setPc_sp]
    · rw [State.setRemaining_mem, State.setPc_mem]
    · rwa [resolved_mem]
  obtain ⟨u, hu, hpc, hsp, hp⟩ := exec_rts_of_pull hword
  refine ⟨u, hu, ?_, ?_, ?_⟩
  · rw [hpc, BitVec.add_assoc]
    rfl
  · rw [hsp, State.setRemaining_sp, State.setPc_sp, pushWord_sp, resolved_sp,
      BitVec.sub_add_cancel]
  · rw [hp, State.setRemaining_p, State.setPc_p, pushWord, push_p, push_p, resolved_p]

/-- Settles O48: the three triggers while Busy, and the mark they leave. -/
theorem busyTriggersRefused : Obligations.BusyTriggersRefused := by
  unfold Obligations.BusyTriggersRefused
  intro s hs hbusy
  have hcall := fun op => hostCall_trigger_of_busy op hs hbusy
  have hperform := fun op => perform_of_refused (hcall op)
  exact ⟨⟨hcall .reset, hcall .irq, hcall .nmi⟩, hperform .reset, hperform .irq, hperform .nmi⟩

/-- Settles O49: the bus is looked at before anything else but the mark. -/
theorem busMustBeAttached : Obligations.BusMustBeAttached := by
  unfold Obligations.BusMustBeAttached
  refine fun s m => ⟨fun hrefused => ⟨fun c hc hbus => ?_, ?_⟩, fun hrefused => ?_⟩
  · have hcall : hostCall c s = .refused .noBus := by
      rw [hostCall_of_unrefused c hrefused]
      simp only [List.mem_cons, List.not_mem_nil, or_false] at hc
      rcases hc with rfl | rfl | rfl | rfl <;> exact whenAttached_of_detached _ hbus
    exact ⟨hcall, perform_of_refused hcall⟩
  · exact ⟨_, hostCall_of_unrefused _ hrefused, rfl, rfl, rfl, rfl, rfl, rfl, fun g _ => by
      cases g <;> rfl⟩
  · obtain ⟨r, hr⟩ := Option.ne_none_iff_exists'.mp hrefused
    exact perform_of_marked hr _

/-- Settles O50: by induction on the list of calls, each of which answers the refusal again. -/
theorem refusalIsSticky : Obligations.RefusalIsSticky := by
  unfold Obligations.RefusalIsSticky
  exact fun s r calls h => ⟨performAll_of_marked h calls, hostCall_of_refused h⟩

end Sys2Proof.Proofs
end

section
/-!
What an instruction can write (spec/10_state.md sections 2 to 4), what it costs
(spec/70_reset_and_hazards.md R282), and which transactions account for its memory
(spec/20_memory.md section 4): one lemma per question over the handlers, and one over `exec`.
-/

namespace Sys2Proof

/-- The eight conditional branches (R181 to R188). -/
def branches : List Mnemonic := [.bcc, .bcs, .beq, .bne, .bmi, .bpl, .bvc, .bvs]

/-- A branch has a Relative operand (R85). -/
theorem operand_of_branch {i : Instr} (h : i.mnemonic ∈ branches) : ∃ b, i.operand = .rel b := by
  cases i
  case bcc b | bcs b | beq b | bne b | bmi b | bpl b | bvc b | bvs b => exact ⟨b, rfl⟩
  all_goals simp [branches, Instr.mnemonic] at h

namespace Machine

/-! ## Branch handlers (R180) -/

section

variable (taken : Bool) (r : State)

/-- A branch writes PC only. -/
theorem branch_fst :
    (branch taken r).1 = r.setPc (if taken then r.pc + r.addrRel else r.pc) := by
  cases taken <;> rfl

theorem branch_mem : (branch taken r).1.mem = r.mem := by
  rw [branch_fst, State.setPc_mem]

theorem branch_snd :
    (branch taken r).2 =
      if taken then if samePage (r.pc + r.addrRel) r.pc then 1 else 2 else 0 := by
  cases taken <;> rfl

theorem branch_snd_le : (branch taken r).2 ≤ 2 := by
  rw [branch_snd]
  split_ifs <;> decide

/-- Extra cycles mean that PC went to the target. -/
theorem branch_pc_of_snd_ne_zero (h : (branch taken r).2 ≠ 0) :
    (branch taken r).1.pc = r.pc + r.addrRel := by
  cases taken
  · exact absurd rfl h
  · rfl

end

/-- The handler of a branch mnemonic is `branch` on a condition. -/
theorem handlerOf_branch {m : Mnemonic} (h : m ∈ branches) (o : Operand) (r : State) :
    ∃ taken, handlerOf m o r = branch taken r := by
  cases m
  case bcc | bcs | beq | bne | bmi | bpl | bvc | bvs => exact ⟨_, rfl⟩
  all_goals simp [branches] at h

/-- No other handler takes extra cycles (R90). -/
theorem handlerOf_snd {m : Mnemonic} (h : m ∉ branches) (o : Operand) (r : State) :
    (handlerOf m o r).2 = 0 := by
  cases m
  case bcc | bcs | beq | bne | bmi | bpl | bvc | bvs => exact absurd (by decide) h
  all_goals rfl

/-! ## Who writes each register, each flag, memory and PC (spec/10_state.md sections 2 and 4) -/

/-- The writers of a byte register. -/
def writersOfReg : Reg → List Mnemonic
  | .a => [.lda, .txa, .tya, .pla, .adc, .sbc, .and, .ora, .eor, .asl, .lsr, .rol, .ror]
  | .x => [.ldx, .tax, .tsx, .inx, .dex]
  | .y => [.ldy, .tay, .iny, .dey]
  | .sp => [.txs, .pha, .php, .pla, .plp, .jsr, .rts, .rti, .brk]

/-- The writers of Z, who are the writers of N too. -/
def writersOfZero : List Mnemonic :=
  [.lda, .ldx, .ldy, .tax, .tay, .txa, .tya, .tsx, .pla, .adc, .sbc, .and, .ora, .eor, .inc, .dec,
    .inx, .iny, .dex, .dey, .asl, .lsr, .rol, .ror, .cmp, .cpx, .cpy, .bit, .plp, .rti]

/-- The writers of a flag. -/
def writersOfFlag : Flag → List Mnemonic
  | .c => [.adc, .sbc, .asl, .lsr, .rol, .ror, .cmp, .cpx, .cpy, .clc, .sec, .plp, .rti]
  | .z | .n => writersOfZero
  | .i => [.cli, .sei, .plp, .rti, .brk]
  | .d => [.cld, .sed, .plp, .rti]
  | .v => [.adc, .sbc, .bit, .clv, .plp, .rti]
  | .b | .u => [.plp, .rti]

/-- The writers of memory. -/
def writersOfMem : List Mnemonic :=
  [.sta, .stx, .sty, .inc, .dec, .asl, .lsr, .rol, .ror, .pha, .php, .jsr, .brk]

/-- The writers of PC beyond its sequential advance. -/
def writersOfPc : List Mnemonic :=
  [.bcc, .bcs, .beq, .bne, .bmi, .bpl, .bvc, .bvs, .jmp, .jsr, .rts, .rti, .brk]

/-- The byte registers a mnemonic may write. -/
def writtenRegs (m : Mnemonic) : List Reg := [.a, .x, .y, .sp].filter fun g => m ∈ writersOfReg g

/-- The flags a mnemonic may write. -/
def writtenFlags (m : Mnemonic) : List Flag :=
  [.c, .z, .i, .d, .b, .u, .v, .n].filter fun f => m ∈ writersOfFlag f

theorem not_mem_writtenRegs {m : Mnemonic} {g : Reg} (h : m ∉ writersOfReg g) :
    g ∉ writtenRegs m := by
  simp [writtenRegs, h]

theorem not_mem_writtenFlags {m : Mnemonic} {f : Flag} (h : m ∉ writersOfFlag f) :
    f ∉ writtenFlags m := by
  simp [writtenFlags, h]

theorem branch_frame {regs : List Reg} {flags : List Flag} {bytes : List Word} (taken : Bool)
    (r : State) : Frame regs flags bytes r (branch taken r).1 := by
  rw [branch_fst]
  exact setPc_frame r _

/-- The frame of a shift or a rotate in either form. -/
theorem shiftWith_frame (o : Operand) (v : Byte) (out : Bool) (r : State) :
    ∃ bytes, Frame [.a] [.c, .z, .n] bytes r (shiftWith o v out r) := by
  by_cases ho : o = .acc
  · subst ho
    exact ⟨_, shiftWith_acc_frame v out r⟩
  · exact ⟨_, (shiftWith_memory_frame v out r ho).mono (List.nil_subset _) (List.Subset.refl _)
      (List.Subset.refl _)⟩

/-- A frame that holds for a handler holds with the registers and the flags its mnemonic may write. -/
theorem Frame.writers {m : Mnemonic} {regs : List Reg} {flags : List Flag} {bytes : List Word}
    {r t : State} (h : Frame regs flags bytes r t) (hregs : regs ⊆ writtenRegs m)
    (hflags : flags ⊆ writtenFlags m) :
    ∃ bytes, Frame (writtenRegs m) (writtenFlags m) bytes r t :=
  ⟨bytes, h.mono hregs hflags (List.Subset.refl _)⟩

/-- Every handler's frame: the mnemonic's registers and flags. INC and DEC have no Accumulator form. -/
theorem handlerOf_frame (m : Mnemonic) {o : Operand}
    (hacc : o = .acc → m ∈ [Mnemonic.asl, .lsr, .rol, .ror]) (r : State) :
    ∃ bytes, Frame (writtenRegs m) (writtenFlags m) bytes r (handlerOf m o r).1 := by
  cases m
  case lda => exact (loadOperand_loadsReg .a o r).frame.writers (by decide) (by decide)
  case ldx => exact (loadOperand_loadsReg .x o r).frame.writers (by decide) (by decide)
  case ldy => exact (loadOperand_loadsReg .y o r).frame.writers (by decide) (by decide)
  case sta => exact (storeReg_frame .a r).writers (by decide) (by decide)
  case stx => exact (storeReg_frame .x r).writers (by decide) (by decide)
  case sty => exact (storeReg_frame .y r).writers (by decide) (by decide)
  case tax | tsx => exact (loadReg_loadsReg .x _ r).frame.writers (by decide) (by decide)
  case tay => exact (loadReg_loadsReg .y _ r).frame.writers (by decide) (by decide)
  case txa | tya => exact (loadReg_loadsReg .a _ r).frame.writers (by decide) (by decide)
  case adc => exact (addOperand_addsToA id o r).frame.writers (by decide) (by decide)
  case sbc => exact (addOperand_addsToA subtrahend o r).frame.writers (by decide) (by decide)
  case and => exact (combineIntoA_loadsReg (· &&& ·) o r).frame.writers (by decide) (by decide)
  case ora => exact (combineIntoA_loadsReg (· ||| ·) o r).frame.writers (by decide) (by decide)
  case eor => exact (combineIntoA_loadsReg (· ^^^ ·) o r).frame.writers (by decide) (by decide)
  case bit => exact (handleBit_frame o r).writers (by decide) (by decide)
  case inc =>
    have ho : o ≠ .acc := fun h => by simpa using hacc h
    exact (modifyOperand_frame (· + 1) ho r).writers (by decide) (by decide)
  case dec =>
    have ho : o ≠ .acc := fun h => by simpa using hacc h
    exact (modifyOperand_frame (· - 1) ho r).writers (by decide) (by decide)
  case inx | dex => exact (loadReg_loadsReg .x _ r).frame.writers (by decide) (by decide)
  case iny | dey => exact (loadReg_loadsReg .y _ r).frame.writers (by decide) (by decide)
  case asl | lsr | rol | ror =>
    obtain ⟨bytes, hframe⟩ := shiftWith_frame o _ _ r
    exact hframe.writers (by decide) (by decide)
  case cmp => exact (compareReg_frame .a o r).writers (by decide) (by decide)
  case cpx => exact (compareReg_frame .x o r).writers (by decide) (by decide)
  case cpy => exact (compareReg_frame .y o r).writers (by decide) (by decide)
  case bcc | bcs | beq | bne | bmi | bpl | bvc | bvs =>
    exact ⟨[], branch_frame _ r⟩
  case pha | php => exact (push_frame _ r).writers (by decide) (by decide)
  case pla => exact (handlePla_frame r).writers (by decide) (by decide)
  case plp => exact (handlePlp_frame r).writers (by decide) (by decide)
  case txs => exact (handleTxs_frame r).writers (by decide) (by decide)
  case jmp => exact ⟨[], setPc_frame r _⟩
  case jsr =>
    exact ((pushWord_frame _ r).trans (setPc_frame _ _)).writers (by decide) (by decide)
  case rts => exact (pullSp_pullSp_setPc_frame _ r).writers (by decide) (by decide)
  case rti => exact (handleRti_frame r).writers (by decide) (by decide)
  case clc | cld | cli | clv | sec | sed | sei =>
    exact (setFlag_frame (regs := []) (bytes := []) _ _ r).writers (by decide) (by decide)
  case brk =>
    have hentry := interruptEntry_enters (r.setPc (r.pc + 1)) (softwarePushedP r.p)
      (vector := Config.irqVector) (by decide) (by decide)
    exact ((setPc_frame r _).trans hentry.frame).writers (by decide) (by decide)
  case nop | undocumented => exact ⟨[], setPc_frame r r.pc⟩

/-- Every other handler leaves PC at the next instruction. -/
theorem handlerOf_pc {m : Mnemonic} (h : m ∉ writersOfPc) (o : Operand) (r : State) :
    (handlerOf m o r).1.pc = r.pc := by
  cases m
  case lda | ldx | ldy | adc | sbc | and | ora | eor | bit | cmp | cpx | cpy =>
    exact noteFetched_pc o r
  case inc | dec | asl | lsr | rol | ror =>
    exact (writeBack_pc o (noteFetched o r) _).trans (noteFetched_pc o r)
  case bcc | bcs | beq | bne | bmi | bpl | bvc | bvs | jmp | jsr | rts | rti | brk =>
    exact absurd (by decide) h
  all_goals rfl

/-- Every other handler leaves the memory as it is, as a list. -/
theorem handlerOf_mem {m : Mnemonic} (h : m ∉ writersOfMem) (o : Operand) (r : State) :
    (handlerOf m o r).1.mem = r.mem := by
  cases m
  case lda | ldx | ldy | adc | sbc | and | ora | eor | bit | cmp | cpx | cpy =>
    exact noteFetched_mem o r
  case bcc | bcs | beq | bne | bmi | bpl | bvc | bvs =>
    exact branch_mem _ r
  case sta | stx | sty | inc | dec | asl | lsr | rol | ror | pha | php | jsr | brk =>
    exact absurd (by decide) h
  all_goals rfl

/-- A shift or a rotate in memory does not write A. -/
theorem handlerOf_a_of_memory_shift {m : Mnemonic} (h : m ∈ [Mnemonic.asl, .lsr, .rol, .ror])
    {o : Operand} (ho : o ≠ .acc) (r : State) : (handlerOf m o r).1.a = r.a := by
  cases m
  case asl | lsr | rol | ror => exact (shiftWith_memory_frame _ _ r ho).regs .a (by decide)
  all_goals simp at h

section

variable {i : Instr} {s t : State} (h : exec i s = .next t)

include h

/-- The frame of an instruction: the registers and the flags its mnemonic may write. -/
theorem exec_frame :
    ∃ bytes, Frame (writtenRegs i.mnemonic) (writtenFlags i.mnemonic) bytes s t := by
  obtain ⟨-, rfl⟩ := exec_next h
  obtain ⟨bytes, hframe⟩ := handlerOf_frame i.mnemonic mnemonic_of_operand_acc
    (resolved i.opcode i.operand s)
  exact ⟨bytes, execute_frame _ hframe⟩

theorem exec_keepsHost : KeepsHost s t := by
  obtain ⟨_, hframe⟩ := exec_frame h
  exact hframe.host

/-- A register is unchanged unless the mnemonic is one of its writers. -/
theorem exec_reg {g : Reg} (hg : i.mnemonic ∉ writersOfReg g) : t.reg g = s.reg g := by
  obtain ⟨_, hframe⟩ := exec_frame h
  exact hframe.regs g (not_mem_writtenRegs hg)

/-- A flag is unchanged unless the mnemonic is one of its writers. -/
theorem exec_flag {f : Flag} (hf : i.mnemonic ∉ writersOfFlag f) : t.flag f = s.flag f := by
  obtain ⟨_, hframe⟩ := exec_frame h
  exact hframe.flags f (not_mem_writtenFlags hf)

theorem exec_a_of_memory_shift (hm : i.mnemonic ∈ [Mnemonic.asl, .lsr, .rol, .ror])
    (ho : i.operand ≠ .acc) : t.a = s.a := by
  obtain ⟨-, rfl⟩ := exec_next h
  rw [State.setRemaining_a, handlerOf_a_of_memory_shift hm ho, resolved_a]

theorem exec_mem (hm : i.mnemonic ∉ writersOfMem) : t.mem = s.mem := by
  obtain ⟨-, rfl⟩ := exec_next h
  rw [State.setRemaining_mem, handlerOf_mem hm, resolved_mem]

theorem exec_pc (hm : i.mnemonic ∉ writersOfPc) : t.pc = nextPc i s := by
  obtain ⟨-, rfl⟩ := exec_next h
  rw [State.setRemaining_pc, handlerOf_pc hm, resolved_pc_eq_nextPc]

/-- PLP and RTI leave B clear and U set (R193, R203). -/
theorem exec_pulledP (hm : i.mnemonic ∈ [Mnemonic.plp, .rti]) :
    t.flag .b = false ∧ t.flag .u = true := by
  obtain ⟨-, rfl⟩ := exec_next h
  have hcases : i.mnemonic = .plp ∨ i.mnemonic = .rti := by simpa using hm
  rcases hcases with hi | hi <;> rw [hi]
  · exact ⟨getFlag_pulledP .b _, getFlag_pulledP .u _⟩
  · exact ⟨getFlag_pulledP .b _, getFlag_pulledP .u _⟩

/-! ## The cost (R282) -/

/-- A documented row has at most two extra cycles, and those only in Relative mode (R180, R282). -/
theorem exec_cost : ∃ c2, t.remaining = cost i s c2 ∧
    c2 ≤ (if (descriptor i.opcode).mode = .rel then 2 else 0) ∧
    (c2 ≠ 0 → ∃ b, i.operand = .rel b ∧ t.pc = nextPc i s + sext16 b) := by
  obtain ⟨hdoc, rfl⟩ := exec_next h
  refine ⟨(handlerOf i.mnemonic i.operand (resolved i.opcode i.operand s)).2, ?_, ?_⟩
  · rw [State.setRemaining_remaining, pageCycles_resolved, cost]
  · by_cases hbranch : i.mnemonic ∈ branches
    · obtain ⟨b, hb⟩ := operand_of_branch hbranch
      obtain ⟨taken, htaken⟩ := handlerOf_branch hbranch i.operand (resolved i.opcode i.operand s)
      have hmode : (descriptor i.opcode).mode = .rel := by
        obtain ⟨-, hmode⟩ := descriptor_row ((wellFormed_iff i).mpr (absurd · hdoc))
        rw [hmode, hb, Operand.mode]
      rw [htaken, if_pos hmode]
      refine ⟨branch_snd_le taken _, fun hne => ⟨b, hb, ?_⟩⟩
      rw [State.setRemaining_pc, branch_pc_of_snd_ne_zero taken _ hne, resolved_pc_eq_nextPc, hb]
      rfl
    · rw [handlerOf_snd hbranch]
      exact ⟨Nat.zero_le _, absurd rfl⟩

/-- Every cost lies between 2 and 7. -/
theorem exec_cost_bounds : 2 ≤ t.remaining ∧ t.remaining ≤ 7 := by
  obtain ⟨c2, hcost, hc2, -⟩ := exec_cost h
  obtain ⟨hlow, hhigh⟩ := descriptor_costBounded i.opcode
  have hc1 : (if pageCrossed i.operand s && (descriptor i.opcode).pagePenalty then 1 else 0) ≤
      (if (descriptor i.opcode).pagePenalty then 1 else 0) := by
    cases pageCrossed i.operand s <;> simp
  rw [hcost, cost]
  omega

end

/-! ## Transactions and memory (R65, R70) -/

/-- A list of transactions that accounts for the memory `m'` after `m`: its writes make the one from the
other, and its reads return the bytes last written. -/
def Accounts (m : Memory) (l : List BusAccess) (m' : Memory) : Prop :=
  m' = replay m l ∧ readsAgree m l

section

variable {m m' m'' : Memory} {l l' : List BusAccess}

theorem Accounts.nil : Accounts m [] m := ⟨rfl, trivial⟩

theorem Accounts.read (h : Accounts m l m') (a : Word) : Accounts m (readAccess m a :: l) m' := by
  obtain ⟨hmem, hreads⟩ := h
  exact ⟨hmem, rfl, hreads⟩

theorem Accounts.write {a : Word} {v : Byte} (h : Accounts (m.write a v) l m') :
    Accounts m (.write a v :: l) m' := h

theorem Accounts.readWord (m : Memory) (a : Word) : Accounts m (readWordAccesses m a) m :=
  (Accounts.nil.read (a + 1)).read a

theorem Accounts.readPointer (m : Memory) (a : Word) : Accounts m (readPointerAccesses m a) m :=
  (Accounts.nil.read (nextInPage a)).read a

theorem Accounts.append (h : Accounts m l m') (h' : Accounts m' l' m'') :
    Accounts m (l ++ l') m'' := by
  induction l generalizing m with
  | nil =>
    obtain ⟨rfl, -⟩ := h
    exact h'
  | cons access l ih =>
    cases access with
    | read a v =>
      obtain ⟨hmem, rfl, hreads⟩ := h
      exact (ih ⟨hmem, hreads⟩).read a
    | write a v => exact ih (m := m.write a v) h

/-- The canonical form is kept by any transactions (log 1). -/
theorem wf_replay (h : m.wf) : (replay m l).wf := by
  induction l generalizing m with
  | nil => exact h
  | cons access l ih =>
    cases access with
    | read a v => exact ih h
    | write a v => exact ih (Memory.wf_write h a v)

theorem Accounts.wf (h : Accounts m l m') (hm : m.wf) : m'.wf := by
  obtain ⟨rfl, -⟩ := h
  exact wf_replay hm

end

section

variable (o : Operand) (s : State)

theorem accounts_operandFetch : Accounts s.mem (operandFetchAccesses o s) s.mem := by
  cases o
  case imp | acc | imm => exact .nil
  case zp0 | zpx | zpy | izx | izy | rel => exact Accounts.nil.read s.pc
  case abs | abx | aby | ind => exact .readWord s.mem s.pc

theorem accounts_pointer : Accounts s.mem (pointerAccesses o s) s.mem := by
  cases o
  case ind w => exact .readPointer s.mem w
  case izx b => exact .readPointer s.mem (zext16 (b + s.x))
  case izy b => exact .readPointer s.mem (zext16 b)
  all_goals exact .nil

theorem accounts_operandRead : Accounts s.mem (operandReadAccesses o s) (noteFetched o s).mem := by
  cases o
  case acc => exact .nil
  all_goals exact Accounts.nil.read s.addrAbs

/-- A read-modify-write is one read and one write at EA, or none in Accumulator mode (R57, R58). -/
theorem accounts_modify (v : Byte) :
    Accounts s.mem (modifyAccesses o v s) (writeBack o v (noteFetched o s)).mem := by
  cases o
  case acc => exact .nil
  all_goals exact Accounts.read (Accounts.write .nil) s.addrAbs

theorem accounts_pushWord (w : Word) :
    Accounts s.mem (pushWordAccesses w s) (pushWord w s).mem :=
  .write (.write .nil)

theorem accounts_interrupt (vector : Word) (pushedP : Byte) :
    Accounts s.mem (interruptAccesses vector pushedP s) (interruptEntry vector pushedP s).mem :=
  ((accounts_pushWord s s.pc).append (.write .nil)).append (.readWord _ vector)

/-- Every handler's transactions account for its memory. -/
theorem accounts_handler (m : Mnemonic) :
    Accounts s.mem (handlerAccesses m o s) (handlerOf m o s).1.mem := by
  cases m
  case lda | ldx | ldy | adc | sbc | and | ora | eor | bit | cmp | cpx | cpy =>
    exact accounts_operandRead o s
  case sta | stx | sty | pha | php => exact .write .nil
  case inc | dec | asl | lsr | rol | ror => exact accounts_modify o s _
  case pla | plp => exact Accounts.nil.read _
  case jsr => exact accounts_pushWord s _
  case rts => exact (Accounts.nil.read _).read _
  case rti => exact ((Accounts.nil.read _).read _).read _
  case brk => exact accounts_interrupt (s.setPc (s.pc + 1)) _ _
  case bcc | bcs | beq | bne | bmi | bpl | bvc | bvs =>
    rw [handlerOf_mem (by decide)]
    exact .nil
  all_goals exact .nil

end

/-- The transactions of an instruction account for its memory. -/
theorem exec_accounts {i : Instr} {s t : State} (h : exec i s = .next t) :
    Accounts s.mem (instrAccesses i s) t.mem := by
  obtain ⟨-, rfl⟩ := exec_next h
  have hfetch := accounts_operandFetch i.operand (fetchOpcode i.opcode s)
  have hpointer := accounts_pointer i.operand (fetchOpcode i.opcode s)
  have hhandler := accounts_handler i.operand (resolved i.opcode i.operand s) i.mnemonic
  rw [fetchOpcode_mem] at hfetch hpointer
  rw [resolved_mem] at hhandler
  exact ((hfetch.append hpointer).append hhandler).read s.pc

end Machine

end Sys2Proof

namespace Sys2Proof.Proofs

open Sys2Proof.Machine

/-- Settles O53: c2 is the handler's, and the table bounds the sum. -/
theorem costIsBaseAndPenalties : Obligations.CostIsBaseAndPenalties := by
  unfold Obligations.CostIsBaseAndPenalties
  intro i s t h
  obtain ⟨c2, hcost, hc2, htaken⟩ := exec_cost h
  obtain ⟨hlow, hhigh⟩ := exec_cost_bounds h
  have hle : c2 ≤ 2 := by split_ifs at hc2 <;> omega
  refine ⟨c2, hcost, hle, hlow, hhigh, fun hne => ?_⟩
  obtain ⟨b, hb, hpc⟩ := htaken hne
  rw [hb]
  exact ⟨rfl, hpc⟩

/-- Settles O57: each clause is one list of writers. -/
theorem registerWriters : Obligations.RegisterWriters := by
  unfold Obligations.RegisterWriters
  exact fun i s t h => ⟨exec_reg h (g := .a), exec_a_of_memory_shift h, exec_reg h (g := .x),
    exec_reg h (g := .y), exec_reg h (g := .sp), exec_mem h, exec_pc h, exec_keepsHost h⟩

/-- Settles O58: each clause is one list of writers; PLP and RTI write the byte they pull, with B clear
and U set. -/
theorem flagWriters : Obligations.FlagWriters := by
  unfold Obligations.FlagWriters
  exact fun i s t h => ⟨exec_flag h (f := .c),
    fun hm => ⟨exec_flag h (f := .z) hm, exec_flag h (f := .n) hm⟩, exec_flag h (f := .i),
    exec_flag h (f := .d), exec_flag h (f := .v),
    fun hm => ⟨exec_flag h (f := .b) hm, exec_flag h (f := .u) hm⟩, exec_pulledP h⟩

end Sys2Proof.Proofs
end

section
/-!
The step engine and the invariants (spec/70_reset_and_hazards.md section 2, spec/10_state.md sections 3
and 5): a run through one instruction, what every host call keeps, and its transactions.
-/

namespace Sys2Proof.Machine

/-! ## Waiting pulses (R280, R283) -/

/-- The counters after `k` pulses that only count. -/
def waited (k : Nat) (s : State) : State :=
  (s.setRemaining (s.remaining - k)).setTotalCycles (s.totalCycles + k)

theorem waited_tick (k : Nat) (s : State) : waited k (tick s) = waited (k + 1) s := by
  have hremaining : s.remaining - 1 - k = s.remaining - (k + 1) := by omega
  have htotal : s.totalCycles + 1 + k = s.totalCycles + (k + 1) := by omega
  simp only [waited, tick, State.setTotalCycles_remaining, State.setTotalCycles_totalCycles,
    State.setRemaining_remaining, hremaining, htotal]
  rfl

/-- `k` pulses of a running core that is Busy for at least as many only count. -/
theorem run_busy (k : Nat) {s : State} (hs : s.Running) (hk : k ≤ s.remaining) :
    Host.Core.run core k s = .next (waited k s) := by
  induction k generalizing s with
  | zero => rfl
  | succ k ih =>
    obtain ⟨hrefused, hbus⟩ := hs
    have hstep : step s = .next (tick s) := step_busy hrefused hbus (by omega)
    rw [run_succ core k hstep, ih (s := tick s) ⟨hrefused, hbus⟩ (Nat.le_sub_of_add_le hk),
      waited_tick]

/-! ## What a host call answers (R13) -/

/-- Everything a trigger can do when it answers a next state: the engine was at a boundary and ran the
protocol. -/
theorem hostCall_trigger_next {op : Trigger} {s t : State} (h : hostCall op.call s = .next t) :
    s.AtBoundary ∧ t = op.protocol s := by
  cases hrefused : s.refused with
  | some r =>
    rw [hostCall_of_refused hrefused] at h
    cases h
  | none =>
    cases hbus : s.busAttached with
    | false =>
      rw [hostCall_trigger op hrefused, whenAttached_of_detached _ hbus] at h
      cases h
    | true =>
      by_cases hidle : s.remaining = 0
      · have hboundary : s.AtBoundary := ⟨⟨hrefused, hbus⟩, hidle⟩
        rw [hostCall_trigger_of_atBoundary op hboundary] at h
        cases h
        exact ⟨hboundary, rfl⟩
      · rw [hostCall_trigger_of_busy op ⟨hrefused, hbus⟩ (Nat.pos_of_ne_zero hidle)] at h
        cases h

/-- Everything `attach_bus` can do when it answers a next state. -/
theorem hostCall_attachBus_next {m : Memory} {s t : State}
    (h : hostCall (.attachBus m) s = .next t) : t = attachBus m s := by
  cases hrefused : s.refused with
  | some r =>
    rw [hostCall_of_refused hrefused] at h
    cases h
  | none =>
    rw [hostCall_of_unrefused _ hrefused] at h
    cases h
    rfl

/-- Everything a host call can do when it answers a next state: a pulse, a trigger at a boundary, or a
new bus. -/
theorem hostCall_next {c : HostCall} {s t : State} (h : hostCall c s = .next t) :
    (c = .clock ∧ step s = .next t) ∨
      (∃ op, c = Trigger.call op ∧ s.AtBoundary ∧ t = op.protocol s) ∨
      ∃ m, c = .attachBus m ∧ t = attachBus m s := by
  cases c with
  | clock => exact .inl ⟨rfl, h⟩
  | reset => exact .inr (.inl ⟨.reset, rfl, hostCall_trigger_next h⟩)
  | irq => exact .inr (.inl ⟨.irq, rfl, hostCall_trigger_next h⟩)
  | nmi => exact .inr (.inl ⟨.nmi, rfl, hostCall_trigger_next h⟩)
  | attachBus m => exact .inr (.inr ⟨m, rfl, hostCall_attachBus_next h⟩)

/-- A call leaves the state it answers, or the mark. -/
theorem perform_eq (c : HostCall) (s : State) :
    hostCall c s = .next (perform c s) ∨ ∃ r, perform c s = s.setRefused (some r) := by
  cases h : hostCall c s with
  | next t => exact .inl (by rw [perform_of_next h])
  | fault f => cases f
  | refused r => exact .inr ⟨r, perform_of_refused h⟩

/-- What every accepted well-formed call keeps and the mark does not touch, any list of such calls
keeps. -/
theorem performAll_keeps {P : State → Prop}
    (hnext : ∀ {c s t}, c.WellFormed → P s → hostCall c s = .next t → P t)
    (hmark : ∀ {s} r, P s → P (s.setRefused r)) {calls : List HostCall}
    (hcalls : ∀ c ∈ calls, c.WellFormed) {s : State} (hs : P s) : P (performAll calls s) := by
  induction calls generalizing s with
  | nil => exact hs
  | cons c calls ih =>
    obtain ⟨hc, hcalls⟩ := List.forall_mem_cons.mp hcalls
    refine ih hcalls ?_
    rcases perform_eq c s with hcall | ⟨r, hr⟩
    · exact hnext hc hs hcall
    · rw [hr]
      exact hmark _ hs

/-- Everything a trigger's protocol can do: the reset, nothing (a masked IRQ), or an entry through a
vector above the stack page. -/
theorem protocol_eq (op : Trigger) (s : State) :
    op.protocol s = resetProtocol s ∨ op.protocol s = s ∨
      ∃ vector : Word, 512 ≤ vector.toNat ∧ 512 ≤ (vector + 1).toNat ∧
        op.protocol s = intEntry vector 7 s := by
  cases op with
  | reset => exact .inl rfl
  | nmi => exact .inr (.inr ⟨Config.nmiVector, by decide, by decide, rfl⟩)
  | irq =>
    cases hi : s.flag .i with
    | true => exact .inr (.inl (irqProtocol_of_masked hi))
    | false =>
      exact .inr (.inr ⟨Config.irqVector, by decide, by decide, irqProtocol_of_enabled hi⟩)

/-! ## The counter's bound and the canonical memory (R38, R70) -/

/-- The transactions of an interrupt entry keep the canonical form. -/
theorem wf_intEntry {s : State} (h : s.mem.wf) (vector : Word) (cycles : Nat) :
    (intEntry vector cycles s).mem.wf :=
  (accounts_interrupt s vector (hardwarePushedP s.p)).wf h

theorem step_bounded {s t : State} (hs : s.Bounded) (h : step s = .next t) : t.Bounded := by
  obtain ⟨hremaining, hmem⟩ := hs
  obtain ⟨-, -, ⟨-, u, hu, rfl⟩ | ⟨-, rfl⟩⟩ := step_next h
  · obtain ⟨-, hcost⟩ := exec_cost_bounds hu
    exact ⟨(Nat.sub_le _ 1).trans hcost, (exec_accounts hu).wf hmem⟩
  · exact ⟨(Nat.sub_le _ 1).trans hremaining, hmem⟩

theorem protocol_bounded (op : Trigger) {s : State} (hs : s.Bounded) : (op.protocol s).Bounded := by
  obtain h | h | ⟨vector, -, -, h⟩ := protocol_eq op s <;> rw [h]
  · exact ⟨le_refl 7, hs.2⟩
  · exact hs
  · exact ⟨le_refl 7, wf_intEntry hs.2 vector 7⟩

/-- Every accepted well-formed call keeps the bound and the canonical form. -/
theorem hostCall_bounded {c : HostCall} {s t : State} (hc : c.WellFormed) (hs : s.Bounded)
    (h : hostCall c s = .next t) : t.Bounded := by
  obtain ⟨-, hstep⟩ | ⟨op, -, -, rfl⟩ | ⟨m, rfl, rfl⟩ := hostCall_next h
  · exact step_bounded hs hstep
  · exact protocol_bounded op hs
  · obtain ⟨hremaining, -⟩ := hs
    exact ⟨hremaining, hc⟩

/-! ## U = 1 and B = 0 (R46) -/

theorem step_statusFixed {s t : State} (hs : s.StatusFixed) (h : step s = .next t) :
    t.StatusFixed := by
  obtain ⟨-, -, ⟨-, u, hu, rfl⟩ | ⟨-, rfl⟩⟩ := step_next h
  · by_cases hm : (fetchInstr s).mnemonic ∈ [Mnemonic.plp, .rti]
    · obtain ⟨hb, hU⟩ := exec_pulledP hu hm
      exact ⟨hU, hb⟩
    · obtain ⟨hU, hb⟩ := hs
      exact ⟨(exec_flag hu (f := .u) hm).trans hU, (exec_flag hu (f := .b) hm).trans hb⟩
  · exact hs

theorem resetProtocol_statusFixed (s : State) : (resetProtocol s).StatusFixed := by
  rw [State.StatusFixed, State.flag, State.flag, resetProtocol_p]
  decide

theorem protocol_statusFixed (op : Trigger) {s : State} (hs : s.StatusFixed) :
    (op.protocol s).StatusFixed := by
  obtain h | h | ⟨vector, hlow, hhigh, h⟩ := protocol_eq op s <;> rw [h]
  · exact resetProtocol_statusFixed s
  · exact hs
  · obtain ⟨-, -, -, -, hframe⟩ := intEntry_enters s 7 hlow hhigh
    obtain ⟨hU, hb⟩ := hs
    exact ⟨(hframe.flags .u (by decide)).trans hU, (hframe.flags .b (by decide)).trans hb⟩

/-- Every accepted well-formed call keeps the invariant. -/
theorem hostCall_inv {c : HostCall} {s t : State} (hc : c.WellFormed) (hs : s.Inv)
    (h : hostCall c s = .next t) : t.Inv := by
  obtain ⟨hstatus, hbounded⟩ := hs
  refine ⟨?_, hostCall_bounded hc hbounded h⟩
  obtain ⟨-, hstep⟩ | ⟨op, -, -, rfl⟩ | ⟨m, -, rfl⟩ := hostCall_next h
  · exact step_statusFixed hstatus hstep
  · exact protocol_statusFixed op hstatus
  · exact hstatus

/-! ## The transactions of a host call (R65, R70) -/

/-- A trigger's transactions at a boundary account for its memory. -/
theorem accounts_trigger (op : Trigger) {s : State} (h : s.AtBoundary) :
    Accounts s.mem (callAccesses op.call s) (op.protocol s).mem := by
  have hboundary := h
  obtain ⟨⟨hrefused, hbus⟩, hidle⟩ := h
  cases op with
  | reset =>
    rw [Trigger.call, callAccesses_reset_of_atBoundary hboundary]
    exact .readWord s.mem Config.resetVector
  | nmi =>
    have hcall : callAccesses .nmi s = interruptAccesses Config.nmiVector (hardwarePushedP s.p) s := by
      simp [callAccesses, hrefused, hbus, hidle]
    rw [Trigger.call, hcall]
    exact accounts_interrupt s Config.nmiVector (hardwarePushedP s.p)
  | irq =>
    cases hi : s.flag .i with
    | true =>
      have hcall : callAccesses .irq s = [] := by simp [callAccesses, hi]
      rw [Trigger.call, Trigger.protocol, hcall, irqProtocol_of_masked hi]
      exact .nil
    | false =>
      have hcall : callAccesses .irq s =
          interruptAccesses Config.irqVector (hardwarePushedP s.p) s := by
        simp [callAccesses, hrefused, hbus, hidle, hi]
      rw [Trigger.call, Trigger.protocol, hcall, irqProtocol_of_enabled hi]
      exact accounts_interrupt s Config.irqVector (hardwarePushedP s.p)

/-- A waiting pulse makes no transaction (R280). -/
theorem callAccesses_clock_of_busy {s : State} (h : s.remaining ≠ 0) :
    callAccesses .clock s = [] := by
  simp [callAccesses, h]

theorem accounts_step {s t : State} (h : step s = .next t) :
    Accounts s.mem (callAccesses .clock s) t.mem := by
  obtain ⟨hrefused, hbus, ⟨hidle, u, hu, rfl⟩ | ⟨hbusy, rfl⟩⟩ := step_next h
  · rw [callAccesses_clock_of_atBoundary ⟨⟨hrefused, hbus⟩, hidle⟩]
    exact exec_accounts (t := u) hu
  · rw [callAccesses_clock_of_busy hbusy]
    exact .nil

end Sys2Proof.Machine

namespace Sys2Proof.Proofs

open Sys2Proof.Machine

/-- Settles O51: the waiting pulse is `tick`. -/
theorem busyPulseOnlyCounts : Obligations.BusyPulseOnlyCounts := by
  unfold Obligations.BusyPulseOnlyCounts
  rintro s ⟨hrefused, hbus⟩ hbusy
  exact ⟨step_busy hrefused hbus hbusy.ne', callAccesses_clock_of_busy hbusy.ne'⟩

/-- Settles O52: the first pulse executes and counts; the other `k - 1` only count. -/
theorem instructionOccupiesItsCost : Obligations.InstructionOccupiesItsCost := by
  unfold Obligations.InstructionOccupiesItsCost
  rintro s t ⟨⟨hrefused, hbus⟩, hidle⟩ hexec
  obtain ⟨hlow, -⟩ := exec_cost_bounds hexec
  obtain ⟨hcycles, hrefused', hbus'⟩ := exec_keepsHost hexec
  refine ⟨by omega, fun k hk hle => ?_⟩
  obtain ⟨j, rfl⟩ := Nat.exists_eq_add_of_le' hk
  have hstep : step s = .next (tick t) := by
    rw [step_idle hrefused hbus hidle, hexec]
    rfl
  rw [run_succ core j hstep, ← hcycles]
  have hrunning : (tick t).Running := ⟨hrefused'.trans hrefused, hbus'.trans hbus⟩
  rw [run_busy j hrunning (Nat.le_sub_of_add_le hle), waited_tick]
  rfl

/-- Settles O54: the flags from the list of their writers, the counter from the cost, the canonical
form from the transactions. -/
theorem stepKeepsInvariant : Obligations.StepKeepsInvariant := by
  unfold Obligations.StepKeepsInvariant
  rintro s t ⟨hstatus, hbounded⟩ h
  exact ⟨step_statusFixed hstatus h, step_bounded hbounded h⟩

/-- Settles O55: the one state, by computation. -/
theorem resetStateHasInvariant : Obligations.ResetStateHasInvariant := by
  unfold Obligations.ResetStateHasInvariant
  decide

/-- Settles O56: by induction on the list of calls, from `construct` with the bound and the canonical
form, and from the state an accepted reset leaves with the whole invariant. -/
theorem hostCallsKeepInvariant : Obligations.HostCallsKeepInvariant := by
  unfold Obligations.HostCallsKeepInvariant
  refine ⟨fun calls hcalls => ?_, fun s t calls hs hreset hcalls => ?_⟩
  · exact performAll_keeps hostCall_bounded (fun _ hs => hs) hcalls
      ⟨Nat.zero_le 7, Memory.wf_nil⟩
  · obtain ⟨-, rfl⟩ := hostCall_trigger_next (op := .reset) hreset
    exact performAll_keeps hostCall_inv (fun _ hs => hs) hcalls
      ⟨resetProtocol_statusFixed s, protocol_bounded .reset hs⟩

/-- Settles O60: a pulse's transactions are its instruction's, a trigger's are its protocol's. -/
theorem transactionsAccountForMemory : Obligations.TransactionsAccountForMemory := by
  unfold Obligations.TransactionsAccountForMemory
  intro c s t hc h
  obtain ⟨rfl, hstep⟩ | ⟨op, rfl, hboundary, rfl⟩ | ⟨m, rfl, -⟩ := hostCall_next h
  · exact accounts_step hstep
  · exact accounts_trigger op hboundary
  · exact absurd rfl (hc m)

end Sys2Proof.Proofs
end

section
/-!
The scratch fields (spec/10_state.md R37; log 10): what an instruction leaves in them, and that none of
its results depends on what they held before.
-/

namespace Sys2Proof

/-- The mnemonics whose handler reads its operand (R109). -/
def operandReaders : List Mnemonic :=
  [.lda, .ldx, .ldy, .adc, .sbc, .and, .ora, .eor, .bit, .cmp, .cpx, .cpy, .inc, .dec, .asl, .lsr,
    .rol, .ror]

/-- The mnemonics whose handler uses the effective address. -/
def addressUsers : List Mnemonic := [.sta, .stx, .sty, .jmp, .jsr] ++ operandReaders

/-- An instruction that uses the effective address has one, but for a shift or a rotate of A (R85). -/
theorem operand_of_addressUser {i : Instr} (h : i.mnemonic ∈ addressUsers) :
    i.operand = .acc ∨ i.operand.mode ∉ [Mode.imp, .acc, .rel] := by
  revert h
  cases i <;> simp [Instr.operand, Instr.mnemonic, Operand.mode, addressUsers, operandReaders]

namespace Machine

/-! ## What an instruction leaves in the scratch -/

/-- The four scratch fields no handler writes are unchanged. -/
structure KeepsScratch (s t : State) : Prop where
  opcode : t.opcode = s.opcode
  crossed : t.crossed = s.crossed
  addrRel : t.addrRel = s.addrRel
  addrAbs : t.addrAbs = s.addrAbs

theorem KeepsScratch.trans {s t u : State} (h₁ : KeepsScratch s t) (h₂ : KeepsScratch t u) :
    KeepsScratch s u :=
  ⟨h₂.opcode.trans h₁.opcode, h₂.crossed.trans h₁.crossed, h₂.addrRel.trans h₁.addrRel,
    h₂.addrAbs.trans h₁.addrAbs⟩

theorem noteFetched_keepsScratch (o : Operand) (s : State) : KeepsScratch s (noteFetched o s) :=
  ⟨noteFetched_opcode o s, noteFetched_crossed o s, noteFetched_addrRel o s,
    noteFetched_addrAbs o s⟩

theorem writeBack_keepsScratch (o : Operand) (v : Byte) (s : State) :
    KeepsScratch s (writeBack o v s) :=
  ⟨writeBack_opcode o s v, writeBack_crossed o s v, writeBack_addrRel o s v,
    writeBack_addrAbs o s v⟩

theorem setPc_keepsScratch (s : State) (w : Word) : KeepsScratch s (s.setPc w) := ⟨rfl, rfl, rfl, rfl⟩

theorem branch_keepsScratch (taken : Bool) (s : State) : KeepsScratch s (branch taken s).1 := by
  rw [branch_fst]
  exact setPc_keepsScratch s _

theorem branch_fetched (taken : Bool) (s : State) : (branch taken s).1.fetched = s.fetched := by
  rw [branch_fst, State.setPc_fetched]

theorem pushWord_keepsScratch (w : Word) (s : State) : KeepsScratch s (pushWord w s) :=
  ⟨rfl, rfl, rfl, rfl⟩

theorem pushWord_fetched (w : Word) (s : State) : (pushWord w s).fetched = s.fetched := rfl

theorem interruptEntry_keepsScratch (vector : Word) (pushedP : Byte) (s : State) :
    KeepsScratch s (interruptEntry vector pushedP s) := by
  obtain ⟨hopcode, hcrossed, hrel, habs⟩ := pushWord_keepsScratch s.pc s
  rw [interruptEntry_eq]
  exact ⟨hopcode, hcrossed, hrel, habs⟩

/-- No handler writes `opcode`, `crossed`, `addr_rel` or `addr_abs` (R37, R90). -/
theorem handlerOf_keepsScratch (m : Mnemonic) (o : Operand) (r : State) :
    KeepsScratch r (handlerOf m o r).1 := by
  cases m
  case lda | ldx | ldy | adc | sbc | and | ora | eor | bit | cmp | cpx | cpy =>
    obtain ⟨hopcode, hcrossed, hrel, habs⟩ := noteFetched_keepsScratch o r
    exact ⟨hopcode, hcrossed, hrel, habs⟩
  case inc | dec | asl | lsr | rol | ror =>
    obtain ⟨hopcode, hcrossed, hrel, habs⟩ :=
      (noteFetched_keepsScratch o r).trans (writeBack_keepsScratch o _ _)
    exact ⟨hopcode, hcrossed, hrel, habs⟩
  case bcc | bcs | beq | bne | bmi | bpl | bvc | bvs =>
    exact branch_keepsScratch _ r
  case brk =>
    exact (setPc_keepsScratch r _).trans
      (interruptEntry_keepsScratch Config.irqVector (softwarePushedP r.p) (r.setPc (r.pc + 1)))
  all_goals exact ⟨rfl, rfl, rfl, rfl⟩

/-- Only a read of the operand writes `fetched`, and not in Accumulator mode (R109). -/
theorem handlerOf_fetched {m : Mnemonic} {o : Operand} (h : m ∈ operandReaders → o = .acc)
    (r : State) : (handlerOf m o r).1.fetched = r.fetched := by
  cases m
  case bcc | bcs | beq | bne | bmi | bpl | bvc | bvs => exact branch_fetched _ r
  case brk =>
    rw [handlerOf, handleBrk, interruptEntry_eq, State.setPc_fetched, State.setFlag, State.setP_fetched,
      push_fetched, pushWord_fetched, State.setPc_fetched]
  case lda | ldx | ldy | adc | sbc | and | ora | eor | bit | cmp | cpx | cpy | inc | dec | asl | lsr
      | rol | ror =>
    obtain rfl := h (by decide)
    rfl
  all_goals rfl

/-! ## What a result depends on -/

/-- The state with its scratch blanked: everything a result is. -/
def State.results (s : State) : State :=
  ((((s.setOpcode 0).setFetched 0).setAddrAbs 0).setAddrRel 0).setCrossed false

section

variable (s : State)

theorem results_setA (v : Byte) : (s.setA v).results = s.results.setA v := rfl
theorem results_setX (v : Byte) : (s.setX v).results = s.results.setX v := rfl
theorem results_setY (v : Byte) : (s.setY v).results = s.results.setY v := rfl
theorem results_setP (v : Byte) : (s.setP v).results = s.results.setP v := rfl
theorem results_setPc (w : Word) : (s.setPc w).results = s.results.setPc w := rfl
theorem results_setMem (m : Memory) : (s.setMem m).results = s.results.setMem m := rfl
theorem results_setZN (v : Byte) : (s.setZN v).results = s.results.setZN v := rfl
theorem results_setRemaining (n : Nat) : (s.setRemaining n).results = s.results.setRemaining n := rfl
theorem results_setOpcode (v : Byte) : (s.setOpcode v).results = s.results := rfl
theorem results_setFetched (v : Byte) : (s.setFetched v).results = s.results := rfl
theorem results_setAddrAbs (w : Word) : (s.setAddrAbs w).results = s.results := rfl
theorem results_setAddrRel (w : Word) : (s.setAddrRel w).results = s.results := rfl
theorem results_setCrossed (v : Bool) : (s.setCrossed v).results = s.results := rfl
theorem results_pushWord (w : Word) : (pushWord w s).results = pushWord w s.results := rfl

theorem results_push (v : Byte) : (push v s).results = push v s.results := rfl
theorem results_setFlag (f : Flag) (v : Bool) : (s.setFlag f v).results = s.results.setFlag f v := rfl
theorem results_pullSp : (pullSp s).results = pullSp s.results := rfl
@[simp] theorem results_a : s.results.a = s.a := rfl
@[simp] theorem results_x : s.results.x = s.x := rfl
@[simp] theorem results_y : s.results.y = s.y := rfl
@[simp] theorem results_sp : s.results.sp = s.sp := rfl
@[simp] theorem results_p : s.results.p = s.p := rfl
@[simp] theorem results_pc : s.results.pc = s.pc := rfl
@[simp] theorem results_remaining : s.results.remaining = s.remaining := rfl
@[simp] theorem results_mem : s.results.mem = s.mem := rfl

theorem pullByte_results : pullByte s.results = pullByte s :=
  pullByte_congr (results_sp s) (results_mem s)

theorem pullWord_results : pullWord s.results = pullWord s :=
  pullWord_congr (results_sp s) (results_mem s)

theorem results_interruptEntry (vector : Word) (pushedP : Byte) :
    (interruptEntry vector pushedP s).results = interruptEntry vector pushedP s.results := by
  rw [interruptEntry_eq, interruptEntry_eq, results_setPc, results_setFlag, ← results_mem (push _ _),
    results_push, results_pushWord]
  rfl

theorem results_noteFetched (o : Operand) : (noteFetched o s).results = s.results := by
  cases o <;> rfl

theorem results_writeBack (o : Operand) (v : Byte) :
    (writeBack o v s).results =
      if o = .acc then s.results.setA v else s.results.setMem (s.mem.write s.addrAbs v) := by
  cases o <;> rfl

end

/-- A handler that uses neither the effective address nor `addr_rel` reads no scratch at all. -/
theorem results_handlerOf {m : Mnemonic} (haddress : m ∉ addressUsers) (hbranch : m ∉ branches)
    (o : Operand) (r : State) : (handlerOf m o r).1.results = (handlerOf m o r.results).1 := by
  cases m
  case bcc | bcs | beq | bne | bmi | bpl | bvc | bvs => exact absurd (by decide) hbranch
  case pla =>
    simp only [handlerOf, handlePla, results_setZN, results_setA, results_pullSp, pullByte_results]
  case rts => simp only [handlerOf, handleRts, results_setPc, results_pullSp, pullWord_results]
  case rti =>
    have hpulled : ((pullSp r).setP (pulledP (pullByte r))).results =
        (pullSp r.results).setP (pulledP (pullByte r.results)) := by
      rw [results_setP, results_pullSp, pullByte_results]
    simp only [handlerOf, handleRti, returnFromInterrupt, ← hpulled, results_setPc, results_pullSp,
      pullWord_results]
  case brk =>
    simp only [handlerOf, handleBrk, results_interruptEntry, results_setPc, results_pc, results_p]
  case tax | tay | txa | tya | inx | iny | dex | dey | pha | php | plp | tsx | txs
      | clc | cld | cli | clv | sec | sed | sei | nop | undocumented => rfl
  all_goals exact absurd (by decide) haddress

theorem eq_of_results {r r' : State} (h : r'.results = r.results) :
    r'.a = r.a ∧ r'.x = r.x ∧ r'.y = r.y ∧ r'.sp = r.sp ∧ r'.p = r.p ∧ r'.pc = r.pc ∧
      r'.mem = r.mem := by
  have hfield {α : Type} {f : State → α} (hf : ∀ s, f (State.results s) = f s) : f r' = f r := by
    rw [← hf r', h, hf r]
  exact ⟨hfield results_a, hfield results_x, hfield results_y, hfield results_sp, hfield results_p,
    hfield results_pc, hfield results_mem⟩

section

variable {m : Mnemonic} {o : Operand} {r r' : State} (hresults : r'.results = r.results)

include hresults

theorem operandByte_congr (hea : o ≠ .acc → r'.addrAbs = r.addrAbs) :
    operandByte o r' = operandByte o r := by
  obtain ⟨ha, -, -, -, -, -, hmem⟩ := eq_of_results hresults
  cases o
  case acc => exact ha
  case imm => rfl
  all_goals
    rw [operandByte, operandByte, hmem, hea nofun]

/-- The handlers that use the effective address. -/
theorem handlerOf_congr_of_addressUser (hm : m ∈ addressUsers)
    (hacc : o = .acc → m ∈ operandReaders)
    (hea : o ≠ .acc → r'.addrAbs = r.addrAbs) :
    (handlerOf m o r').1.results = (handlerOf m o r).1.results := by
  obtain ⟨ha, hx, hy, -, hp, hpc, hmem⟩ := eq_of_results hresults
  have hflag (f : Flag) : r'.flag f = r.flag f := by rw [State.flag, hp, State.flag]
  have hbyte := operandByte_congr hresults hea
  have hnote : (noteFetched o r').results = (noteFetched o r).results := by
    rw [results_noteFetched, results_noteFetched, hresults]
  have hback (v : Byte) : (writeBack o v (noteFetched o r')).results =
      (writeBack o v (noteFetched o r)).results := by
    simp only [results_writeBack, hnote, noteFetched_mem, noteFetched_addrAbs, hmem]
    split_ifs with ho
    · rfl
    · rw [hea ho]
  cases m
  case sta | stx | sty | jmp =>
    have heff := hea fun ho => absurd (hacc ho) (by decide)
    simp only [handlerOf, handleSta, handleStx, handleSty, handleJmp, results_setMem, results_setPc,
      hresults, hmem, heff, ha, hx, hy]
  case jsr =>
    have heff := hea fun ho => absurd (hacc ho) (by decide)
    simp only [handlerOf, handleJsr, results_setPc, results_pushWord, hresults, hpc, heff]
  case lda | ldx | ldy | adc | sbc | and | ora | eor | bit | cmp | cpx | cpy =>
    simp only [handlerOf, handleLda, handleLdx, handleLdy, handleAdc, handleSbc, handleAnd, handleOra,
      handleEor, handleBit, handleCmp, handleCpx, handleCpy, addToA, logicToA, results_setZN,
      results_setA, results_setX, results_setY, results_setP, hnote, hbyte, noteFetched_a,
      noteFetched_p, flag_noteFetched, ha, hx, hy, hp, hflag]
  case inc | dec | asl | lsr | rol | ror =>
    simp only [handlerOf, handleInc, handleDec, handleAsl, handleLsr, handleRol, handleRor, shiftWith,
      results_setZN, results_setP, hback, hbyte, hp, hflag]
  all_goals exact absurd hm (by decide)

/-- A branch depends on the flags, PC and `addr_rel` (R180). -/
theorem handlerOf_congr_of_branch (hm : m ∈ branches) (hrel : r'.addrRel = r.addrRel) :
    (handlerOf m o r').1.results = (handlerOf m o r).1.results ∧
      (handlerOf m o r').2 = (handlerOf m o r).2 := by
  obtain ⟨-, -, -, -, hp, hpc, -⟩ := eq_of_results hresults
  have hflag (f : Flag) : r'.flag f = r.flag f := by rw [State.flag, hp, State.flag]
  cases m
  case bcc | bcs | beq | bne | bmi | bpl | bvc | bvs =>
    simp only [handlerOf, handleBcc, handleBcs, handleBeq, handleBne, handleBmi, handleBpl, handleBvc,
      handleBvs, branch_fst, branch_snd, results_setPc, hresults, hflag, hpc, hrel, and_self]
  all_goals exact absurd hm (by decide)

/-- What a handler does depends on the results before it, on the effective address where it has one
and on the offset of a branch: on no other scratch. -/
theorem handlerOf_congr (hacc : o = .acc → m ∈ operandReaders)
    (hea : m ∈ addressUsers → o ≠ .acc → r'.addrAbs = r.addrAbs)
    (hrel : m ∈ branches → r'.addrRel = r.addrRel) :
    (handlerOf m o r').1.results = (handlerOf m o r).1.results ∧
      (handlerOf m o r').2 = (handlerOf m o r).2 := by
  by_cases hbranch : m ∈ branches
  · exact handlerOf_congr_of_branch hresults hbranch (hrel hbranch)
  · refine ⟨?_, by rw [handlerOf_snd hbranch, handlerOf_snd hbranch]⟩
    by_cases haddress : m ∈ addressUsers
    · exact handlerOf_congr_of_addressUser hresults haddress hacc (hea haddress)
    · rw [results_handlerOf haddress hbranch, results_handlerOf haddress hbranch, hresults]

end

/-- The state with other scratch values. -/
def State.withScratch (s : State) (op f : Byte) (ea rel : Word) (cr : Bool) : State :=
  ((((s.setOpcode op).setFetched f).setAddrAbs ea).setAddrRel rel).setCrossed cr

section

variable (i : Instr) (o : Operand) (s : State) (op f : Byte) (ea rel : Word) (cr : Bool)

/-- An operand with an effective address has one that the registers, PC and memory give (R97 to R107). -/
theorem effAddr_withScratch (h : o.mode ∉ [Mode.imp, .acc, .rel]) :
    effAddr o (s.withScratch op f ea rel cr) = effAddr o s := by
  cases o
  case imp | acc | rel => simp [Operand.mode] at h
  all_goals rfl

theorem pageCrossed_withScratch : pageCrossed o (s.withScratch op f ea rel cr) = pageCrossed o s := by
  cases o <;> rfl

theorem results_withScratch : (s.withScratch op f ea rel cr).results = s.results := by
  rw [State.withScratch, results_setCrossed, results_setAddrRel, results_setAddrAbs,
    results_setFetched, results_setOpcode]

/-- The opcode fetch and the resolver change PC and the scratch only (R95). -/
theorem results_resolved (op' : Byte) :
    (resolved op' o s).results =
      s.results.setPc (s.results.pc + 1 + BitVec.ofNat 16 o.mode.width) := by
  rw [resolved, resolve, results_setPc, results_setCrossed, results_setAddrRel, results_setAddrAbs,
    fetchOpcode, results_setPc, results_setOpcode, results_pc]
  rfl

/-- What a handler starts from has the same results, whatever the scratch was. -/
theorem results_resolved_withScratch (op' : Byte) :
    (resolved op' o (s.withScratch op f ea rel cr)).results = (resolved op' o s).results := by
  rw [results_resolved, results_resolved, results_withScratch]

/-- The address is written before a handler uses it. -/
theorem resolved_addrAbs_withScratch (h : o.mode ∉ [Mode.imp, .acc, .rel]) (op' : Byte) :
    (resolved op' o (s.withScratch op f ea rel cr)).addrAbs = (resolved op' o s).addrAbs :=
  effAddr_withScratch o (fetchOpcode op' s) op' f ea rel cr h

theorem resolved_rel_addrRel (b : Byte) (op' : Byte) :
    (resolved op' (.rel b) s).addrRel = sext16 b := rfl

/-- The handler's results and cycles are those from the state with other scratch values. -/
theorem handlerOf_resolved_withScratch :
    (handlerOf i.mnemonic i.operand
        (resolved i.opcode i.operand (s.withScratch op f ea rel cr))).1.results =
      (handlerOf i.mnemonic i.operand (resolved i.opcode i.operand s)).1.results ∧
    (handlerOf i.mnemonic i.operand
        (resolved i.opcode i.operand (s.withScratch op f ea rel cr))).2 =
      (handlerOf i.mnemonic i.operand (resolved i.opcode i.operand s)).2 := by
  have hshift : ∀ m ∈ [Mnemonic.asl, .lsr, .rol, .ror], m ∈ operandReaders := by decide
  refine handlerOf_congr (results_resolved_withScratch i.operand s op f ea rel cr i.opcode)
    (fun ho => hshift _ (mnemonic_of_operand_acc ho)) (fun haddress ho => ?_) (fun hbranch => ?_)
  · have hmode := (operand_of_addressUser haddress).resolve_left ho
    exact resolved_addrAbs_withScratch i.operand s op f ea rel cr hmode i.opcode
  · obtain ⟨b, hb⟩ := operand_of_branch hbranch
    rw [hb, resolved_rel_addrRel, resolved_rel_addrRel]

end

/-- The registers, P, PC, memory and cost of an instruction do not depend on the scratch before it. -/
theorem exec_withScratch {i : Instr} {s t : State} (h : exec i s = .next t) (op f : Byte)
    (ea rel : Word) (cr : Bool) :
    ∃ u, exec i (s.withScratch op f ea rel cr) = .next u ∧ u.results = t.results := by
  obtain ⟨hdoc, rfl⟩ := exec_next h
  obtain ⟨hresults, hcycles⟩ := handlerOf_resolved_withScratch i s op f ea rel cr
  refine ⟨_, (exec_eq_handler _ hdoc).trans (executeWith_next _ _ _ _), ?_⟩
  rw [results_setRemaining, results_setRemaining, hresults, hcycles, pageCycles_resolved,
    pageCycles_resolved, pageCrossed_withScratch]

section

variable {i : Instr} {s t : State} (h : exec i s = .next t)

include h

/-- An instruction leaves its byte in `opcode` and the resolver's signal in `crossed`, and writes
`addr_rel` in Relative mode only (R37, R95, R108). -/
theorem exec_scratch : t.opcode = i.opcode ∧ t.crossed = pageCrossed i.operand s ∧
    (i.operand.mode ≠ .rel → t.addrRel = s.addrRel) := by
  obtain ⟨-, rfl⟩ := exec_next h
  obtain ⟨hopcode, hcrossed, hrel, -⟩ :=
    handlerOf_keepsScratch i.mnemonic i.operand (resolved i.opcode i.operand s)
  refine ⟨hopcode.trans (resolved_opcode _ _ _), hcrossed.trans (resolved_crossed _ _ _),
    fun hmode => hrel.trans ?_⟩
  rw [resolved_addrRel, relOffset_of_mode_ne_rel hmode]
  rfl

/-- Without an effective address `addr_abs` and `fetched` keep their values (log 10). -/
theorem exec_scratch_of_no_ea (hmode : i.operand.mode ∈ [Mode.imp, .acc, .rel]) :
    t.addrAbs = s.addrAbs ∧ t.fetched = s.fetched := by
  obtain ⟨-, rfl⟩ := exec_next h
  have habs := (handlerOf_keepsScratch i.mnemonic i.operand (resolved i.opcode i.operand s)).addrAbs
  have hreader (hm : i.mnemonic ∈ operandReaders) : i.operand = .acc :=
    (operand_of_addressUser (List.mem_append_right _ hm)).resolve_right (absurd hmode)
  constructor
  · rw [State.setRemaining_addrAbs, habs, resolved_addrAbs, effAddr_of_no_ea hmode]
    rfl
  · rw [State.setRemaining_fetched, handlerOf_fetched hreader, resolved_fetched]

end

end Machine

end Sys2Proof

namespace Sys2Proof.Proofs

open Sys2Proof.Machine

/-- Settles O59: the resolver writes the scratch a handler reads, and equal results are equal
registers, P, PC, memory and cost. -/
theorem scratchIsWrittenBeforeRead : Obligations.ScratchIsWrittenBeforeRead := by
  unfold Obligations.ScratchIsWrittenBeforeRead
  intro i s t op f ea rel cr h
  obtain ⟨hopcode, hcrossed, hrel⟩ := exec_scratch h
  obtain ⟨u, hu, hresults⟩ := exec_withScratch h op f ea rel cr
  obtain ⟨ha, hx, hy, hsp, hp, hpc, hmem⟩ := eq_of_results hresults
  have hremaining : u.remaining = t.remaining := by
    rw [← results_remaining u, hresults, results_remaining]
  have hregs : KeepsRegs [] t u
    | .a, _ => ha
    | .x, _ => hx
    | .y, _ => hy
    | .sp, _ => hsp
  exact ⟨⟨hopcode, hcrossed, hrel, exec_scratch_of_no_ea h⟩, u, hu,
    hregs, hp, hpc, hmem, hremaining⟩

end Sys2Proof.Proofs
end
